-- ==== Sys2Proof/Word.lean ====
section
/-! DEFINITION. The word type of the operation encoding and the plainest arithmetic on registers
whose width is a build-time parameter. -/

namespace Sys2Proof

/-- The 16-bit operation word `OPW[15:0]` (R80). -/
abbrev OpWord := BitVec 16

/-- What a register of `width` bits holds of the unsigned value `v`: `v mod 2^width` (R15). -/
def trunc (width v : Nat) : Nat := v % 2 ^ width

end Sys2Proof
end

