-- ==== Sys2Proof/Config.lean ====
section
/-! DEFINITION. The build-time parameters of SWSEQ (R6 to R14), the agents that issue operations
(R13), and the schedule the spec leaves open (R14, R70). -/

namespace Sys2Proof

/-- The comparison that drives the pin (`PIN_RULE`, R35): `CNT < CMPA` or `CNT <= CMPA`. -/
inductive PinRule where
  | lt
  | le
  deriving DecidableEq, Repr, Inhabited

/-- The build-time parameters that the operations read (R6 to R9, R21, R35).
`REG_BITS` is `TIMER_BITS` (R9), so it is no field. Any numbers may stand here: a configuration that
the spec does not support is refused when a machine is built of it (`Machine.build`, R8, R171).
Assumption log 1. -/
structure Config where
  /-- `N`, the table length (R6). -/
  n : Nat
  /-- `PRESCALER`, the timer clock divider (R7). -/
  prescaler : Nat
  /-- `TIMER_BITS`, the number of counter bits (R9). -/
  timerBits : Nat
  /-- `IDXW`, the storage width of the phase index (R21). -/
  idxw : Nat
  /-- `PIN_RULE` (R35). -/
  pinRule : PinRule
  deriving DecidableEq, Repr

/-- `REG_BITS = TIMER_BITS` (R9). -/
def Config.regBits (c : Config) : Nat := c.timerBits

/-- `TOP = 2^TIMER_BITS - 1` (R9). -/
def Config.top (c : Config) : Nat := 2 ^ c.timerBits - 1

/-- `REG_MAX = 2^REG_BITS - 1` (R9). -/
def Config.regMax (c : Config) : Nat := 2 ^ c.regBits - 1

/-- `MASK = N - 1` (R6). -/
def Config.mask (c : Config) : Nat := c.n - 1

/-- `IDX_BITS = log2(N)` (R6). -/
def Config.idxBits (c : Config) : Nat := Nat.log2 c.n

/-- The configuration of the state after reset. `TIMER_BITS`, `IDXW` and `PIN_RULE` are the spec's
defaults (R9, R21, R35); `N` and `PRESCALER` have none, and these are the values that the spec's test
vectors assume (`95_test_vectors.md`, Conventions). DESIGN CHOICE, unsafe for a statement that rests on
the numbers; assumption log 2. -/
def Config.initial : Config :=
  { n := 256, prescaler := 1, timerBits := 8, idxw := 16, pinRule := .lt }

/-- The four agents (R13). -/
inductive Agent where
  | fg
  | rst
  | tmr
  | seq
  deriving DecidableEq, Repr, Inhabited

/-- One line of a schedule: an operation word and the agent it is attributed to, which may be left out
(R80, R88). -/
abbrev Line := Option Agent × OpWord

/-- The interleaving of the agents' operations is a parameter of the step relation (R14) that nothing in
the spec fixes (R70, R177): line `k` of the schedule that follows the placed lines is any line at all.
A FREE VALUE: it has no body, so a claim holds for every schedule. Assumption log 4. -/
opaque Config.schedule : Nat → Line

/-- The two parameters that no operation reads (R10, R12): the clock frequency `F_CLK` in hertz and
`H_CLKS`, the clocks from an overflow event to the completion of its handler. Neither has a default;
the timing laws take them as an argument. Assumption log 15. -/
structure Timing where
  fClk : ℚ
  hClks : Nat
  deriving DecidableEq, Repr

end Sys2Proof
end

