-- ==== Sys2Proof/Syntax.lean ====
section
/-! DEFINITION. The sixteen operations of SWSEQ (R83), who issues each (R13, R84), and the
pseudo-instructions (R89). -/

namespace Sys2Proof

/-- The operations, one constructor for each row of R83. Operands are the bits of the word's operand
field (R81, R82). -/
inductive Instr where
  /-- `IDLE` (R101). -/
  | idle
  /-- `SETGIE b` (R102). -/
  | setgie (b : Bool)
  /-- `SETMODE b` (R103). -/
  | setmode (b : Bool)
  /-- `SETPS c` (R104). -/
  | setps (c : BitVec 3)
  /-- `PINOUT` (R105). -/
  | pinout
  /-- `INSTALL` (R106). -/
  | install
  /-- `WRCMPB v` (R107); the operand field has 12 bits, of which `REG_BITS` may be used. -/
  | wrcmpb (v : BitVec 12)
  /-- `RESET` (R200). -/
  | reset
  /-- `CLK` (R122). -/
  | clk
  /-- `TICK` (R123). -/
  | tick
  /-- `IENTER` (R141). -/
  | ienter
  /-- `LDIDX` (R142). -/
  | ldidx
  /-- `WRCMP` (R143). -/
  | wrcmp
  /-- `INCIDX` (R144). -/
  | incidx
  /-- `MSKIDX` (R145). -/
  | mskidx
  /-- `IRET` (R146). -/
  | iret
  deriving DecidableEq, Repr

/-- The agent that issues an operation (R13, R83). -/
def Instr.issuer : Instr → Agent
  | .idle => .fg
  | .setgie _ => .fg
  | .setmode _ => .fg
  | .setps _ => .fg
  | .pinout => .fg
  | .install => .fg
  | .wrcmpb _ => .fg
  | .reset => .rst
  | .clk => .tmr
  | .tick => .tmr
  | .ienter => .seq
  | .ldidx => .seq
  | .wrcmp => .seq
  | .incidx => .seq
  | .mskidx => .seq
  | .iret => .seq

/-- The pseudo-instructions of R89; `p` is a prescaler factor and `m` a mode. -/
inductive Pseudo where
  | di
  | ei
  | configure (p : Nat) (m : Bool)
  | onOverflow
  | setup (p : Nat)
  | service
  | period
  | cperiod
  deriving DecidableEq, Repr

end Sys2Proof
end

