-- ==== Sys2Proof/Machine/State.lean ====
section
/-! DEFINITION. The state of SWSEQ as plain data (R20), the ways a step can stop (R171), and the state
after reset (R200, R201). -/

namespace Sys2Proof.Machine

/-- The sample ROM `TAB` (R50) as (index, sample) cells; the unit is one sample (R51). Only the indices
whose sample is not the unlisted one stand in it, in rising order (`Memory.wf`). Assumption log 9. -/
abbrev Memory := List (Nat × Nat)

/-- The five fields of the control register `CTRL` (CR0, R27). Bit 3 is hardwired 0 and is no field; the
register as a word is `Ctrl.word`. Assumption log 14. -/
structure Ctrl where
  /-- `CTRL.PS`, bits 2:0, the prescaler select code (R28). -/
  ps : BitVec 3
  /-- `CTRL.MODE`, bit 4 (R29). -/
  mode : Bool
  /-- `CTRL.POE`, bit 5 (R30). -/
  poe : Bool
  /-- `CTRL.OVIE`, bit 6 (R31). -/
  ovie : Bool
  /-- `CTRL.GIE`, bit 7 (R32). -/
  gie : Bool
  deriving DecidableEq, Repr

/-- The bookkeeping of R39. It is not hardware, and no operation's guard or result depends on it.
Assumption log 12. -/
structure Ghost where
  /-- `WTRACE`: the values `WRCMP` wrote, in order. -/
  wtrace : List Nat
  /-- `ATRACE`: the new `CMPA` of each wrap, in order. -/
  atrace : List Nat
  /-- `n_ovf`: overflow events so far. -/
  nOvf : Nat
  /-- `n_lost`: coalesced events so far. -/
  nLost : Nat
  /-- `n_isr`: handler invocations so far. -/
  nIsr : Nat
  deriving DecidableEq, Repr

/-- The machine. `cfg`, `pending`, `slot` and `ghost` are the model's own; the rest is the whole
architectural state of R20. The registers whose width is a build-time parameter hold unsigned integers
(R15); their writes keep them in their width (assumption log 10). -/
structure State where
  /-- The build-time parameters (R14); no operation changes them (R202). Assumption log 1. -/
  cfg : Config
  /-- The sample ROM `TAB` (R50). -/
  rom : Memory
  /-- `IDX`, the phase index, `IDXW` bits (R21). -/
  idx : Nat
  /-- `W0`, the handler's working register, `IDXW` bits (R22). -/
  w0 : Nat
  /-- `CMPB`, the compare buffer, `REG_BITS` bits (R23). -/
  cmpb : Nat
  /-- `CMPA`, the active compare value, `REG_BITS` bits (R24). -/
  cmpa : Nat
  /-- `CNT`, the counter, `TIMER_BITS` bits (R25). -/
  cnt : Nat
  /-- `DIV`, the prescaler divider (R26). -/
  div : BitVec 10
  /-- `CTRL` (R27). -/
  ctrl : Ctrl
  /-- `HPC`, the handler step counter (R33). -/
  hpc : BitVec 3
  /-- `OVF`, the pending flag, `STAT` bit 0 (R34). -/
  ovf : Bool
  /-- The bookkeeping of R39. -/
  ghost : Ghost
  /-- The placed lines of the schedule that have not been performed, the next one first (R14, R80). -/
  pending : List Line
  /-- How many lines of `Config.schedule` have been read (assumption log 4). -/
  slot : Nat
  deriving DecidableEq, Repr

/-- What stops the machine with a fault: the one fault of R171. -/
inductive Fault where
  /-- `table_index_out_of_range`. Raised by `WRCMP` with `W0 >= N` (R54), which no state reached from
  reset has (R37). The spec gives the read no value and the model returns none; safe. -/
  | tableIndexOutOfRange
  deriving DecidableEq, Repr

/-- Why the model gives a step or a schedule no meaning: the six refusals of R171, and the name under which
an operation without a meaning would be rejected. -/
inductive Refusal where
  /-- Raised by no operation: the arm of an operation that had no meaning would answer it. Safe. -/
  | notModelled (mnemonic : String)
  /-- `bad_configuration`. Raised when a machine is built of parameters or of a table that the spec does
  not support (R8), and by a table read at an index below `N` that such a table gives no sample
  (R58, assumption log 9). Safe. -/
  | badConfiguration
  /-- `illegal_word`. Raised by `step` and by the admission of a schedule for a word that matches no row
  of the opcode map (R86). Safe. -/
  | illegalWord
  /-- `wrong_agent`. Raised by `step` and by the admission of a schedule for a line attributed to an agent
  that does not issue its operation (R84). Safe. -/
  | wrongAgent
  /-- `guard_false`. Raised by every operation but `RESET` and `CLK` where its guard is false (R15): the
  hardware performs no such operation there, so the schedule is no run. Safe. -/
  | guardFalse
  /-- `ill_formed_setup`. Raised by the admission of a schedule whose foreground program is not the
  beginning of a well-formed one (R207). Safe. -/
  | illFormedSetup
  /-- `foreground_write_after_setup`. Raised by the admission of a schedule with a foreground operation
  other than `IDLE` after setup completes (R215). Safe. -/
  | foregroundWriteAfterSetup
  deriving DecidableEq, Repr

/-- What a step or an operation answers. -/
abbrev Result := Host.Outcome State Fault Refusal

/-- `CTRL` after reset: all fields 0 (R200). -/
def Ctrl.zero : Ctrl := { ps := 0#3, mode := false, poe := false, ovie := false, gie := false }

/-- The bookkeeping at the start of a trace (R39). -/
def Ghost.empty : Ghost := { wtrace := [], atrace := [], nOvf := 0, nLost := 0, nIsr := 0 }

/-- The state after power-on of a machine built of the parameters `c` and the ROM `rom`: every register
is 0 (R200, R201). -/
def State.powerOn (c : Config) (rom : Memory) : State :=
  { cfg := c, rom := rom, idx := 0, w0 := 0, cmpb := 0, cmpa := 0, cnt := 0, div := 0#10,
    ctrl := Ctrl.zero, hpc := 0#3, ovf := false, ghost := Ghost.empty, pending := [], slot := 0 }

/-- The machine right after reset (R200, R201), with nothing placed and nothing listed in the ROM, so
that its table is the default one (R63). -/
def State.reset : State := State.powerOn Config.initial []

end Sys2Proof.Machine
end

