-- ==== Sys2Proof/Machine/Operands.lean ====
section
/-! DEFINITION. What the operands and the register fields stand for: the prescaler codes (R28), and the
registers CR0 and CR1 as words (R27, R34). The operand fields of a word are in `Decode.lean` (R82). -/

namespace Sys2Proof.Machine

/-- `PRESC(code)` (R28), the clocks per tick. Code 0 is "timer stopped (no tick ever)" and has no factor;
0 stands for it here, and no count of clocks reaches it (assumption log 19). -/
def presc (code : BitVec 3) : Nat :=
  match code.toNat with
  | 1 => 1
  | 2 => 8
  | 3 => 32
  | 4 => 64
  | 5 => 128
  | 6 => 256
  | 7 => 1024
  | _ => 0

/-- `PSCODE(p)`, the inverse of `PRESC` on the seven factors (R28); no other number has a code. -/
def pscode (p : Nat) : Option (BitVec 3) :=
  match p with
  | 1 => some 1#3
  | 8 => some 2#3
  | 32 => some 3#3
  | 64 => some 4#3
  | 128 => some 5#3
  | 256 => some 6#3
  | 1024 => some 7#3
  | _ => none

/-- `CTRL` (CR0) as a word: `GIE` in bit 7, `OVIE` 6, `POE` 5, `MODE` 4, 0 in bit 3, `PS` in 2:0 (R27). -/
def Ctrl.word (r : Ctrl) : BitVec 8 :=
  BitVec.ofBool r.gie ++ BitVec.ofBool r.ovie ++ BitVec.ofBool r.poe ++ BitVec.ofBool r.mode ++ 0#1 ++ r.ps

/-- `STAT` (CR1) as a word: `OVF` in bit 0, bits 7:1 hardwired 0 (R34). -/
def State.stat (s : State) : BitVec 8 := 0#7 ++ BitVec.ofBool s.ovf

end Sys2Proof.Machine
end

