-- ==== Sys2Proof/Machine/Flags.lean ====
section
/-! DEFINITION. The conditions the operations test and the flag they raise: the timer runs (R121), a tick
is due (R122), the counter wraps (R123), the interrupt may be entered (R173), `OVF` and its coalescing
(R34, R176). -/

namespace Sys2Proof.Machine

/-- The timer runs iff `MODE = 1` and `PS != 0` (R121). -/
def State.timerRuns (s : State) : Bool := s.ctrl.mode && s.ctrl.ps != 0#3

/-- The divider stands at the last clock of a tick: `DIV + 1 = PRESC(PS)` (R122). -/
def State.tickDue (s : State) : Bool := s.div.toNat + 1 == presc s.ctrl.ps

/-- The next tick is a wrap: `CNT = TOP` (R123). -/
def State.atTop (s : State) : Bool := s.cnt == s.cfg.top

/-- The foreground is not held: SEQ is not in service (R100). -/
def State.fgFree (s : State) : Bool := s.hpc == 0#3

/-- A handler invocation may start: `HPC = 0` and `OVF`, `OVIE`, `GIE` are 1 (R141, R173). -/
def State.canEnter (s : State) : Bool := s.hpc == 0#3 && s.ovf && s.ctrl.ovie && s.ctrl.gie

/-- `OVF` after a wrap: 1, whatever it was and whatever `OVIE` and `GIE` are (R123, R176). -/
def ovfAfterWrap : Bool := true

/-- The events a wrap loses: one if an event is pending already (R39, R176). -/
def State.lostByWrap (s : State) : Nat := if s.ovf then 1 else 0

end Sys2Proof.Machine
end

