-- ==== Sys2Proof/Machine/Memory.lean ====
section
/-! DEFINITION. The sample ROM: reading a sample (R53), the canonical form of its cells, and programming
it before a machine runs (R52, R59). No operation of SWSEQ writes it (R64). -/

namespace Sys2Proof.Machine

/-- The cell listed for an index, if one is. -/
def Memory.lookup : Memory → Nat → Option Nat
  | [], _ => none
  | (a, v) :: rest, i => if a = i then some v else Memory.lookup rest i

/-- `TABLE[i]` as `MemRead(i, 1)` on `TAB` (R53): the listed sample, or else the unlisted one; nothing
outside `0 .. N-1` (R54). -/
def Memory.read (c : Config) (m : Memory) (i : Nat) : Option Nat :=
  if i < c.n then (Memory.lookup m i).or (unlistedSample c i) else none

/-- The cells with the one for `i` taken out. -/
def Memory.erase (i : Nat) : Memory → Memory
  | [] => []
  | (a, v) :: rest => if a = i then rest else (a, v) :: Memory.erase i rest

/-- The cells with `i` holding `v`, in rising order. -/
def Memory.insert (i v : Nat) : Memory → Memory
  | [] => [(i, v)]
  | (a, u) :: rest =>
    if i < a then (i, v) :: (a, u) :: rest
    else if a = i then (i, v) :: rest
    else (a, u) :: Memory.insert i v rest

/-- Programming one sample; programming what the index reads as unlisted takes its cell out. An index at
or past `N` does not exist (R51). -/
def Memory.write (c : Config) (m : Memory) (i v : Nat) : Memory :=
  if i < c.n then
    if unlistedSample c i = some v then Memory.erase i m else Memory.insert i v m
  else m

/-- The indices rise strictly from `lo` on, stay below `N`, and no cell repeats the unlisted sample. -/
def Memory.wfFrom (c : Config) : Nat → Memory → Bool
  | _, [] => true
  | lo, (a, v) :: rest =>
    decide (lo ≤ a) && decide (a < c.n) && decide (unlistedSample c a ≠ some v) && Memory.wfFrom c (a + 1) rest

/-- The canonical form: equal ROMs are equal lists. -/
def Memory.wf (c : Config) (m : Memory) : Bool := Memory.wfFrom c 0 m

/-- Programming the samples `t` from index `i` on. -/
def Memory.programFrom (c : Config) (m : Memory) : Nat → List Nat → Memory
  | _, [] => m
  | i, v :: rest => Memory.programFrom c (Memory.write c m i v) (i + 1) rest

/-- The ROM of a table given sample by sample (R11). -/
def Memory.program (c : Config) (t : List Nat) : Memory := Memory.programFrom c [] 0 t

/-- Every index below `N` has a sample, and it lies in `0 .. REG_MAX` (R57, R58). -/
def Memory.tableOk (c : Config) (m : Memory) : Bool :=
  (List.range c.n).all fun i =>
    match Memory.read c m i with
    | some v => decide (v ≤ c.regMax)
    | none => false

end Sys2Proof.Machine
end

