-- ==== Sys2Proof/Machine/Ops.lean ====
section
/-! DEFINITION. The named operations over registers and the ROM that the meanings share: register writes,
the guard, the tick with its wrap and latch (R123, R124), the interrupt's entry and return (R178, R179),
and the clearing of every register (R200). -/

namespace Sys2Proof.Machine

/-- Write `IDX`; it keeps its `IDXW` bits (R21, R144). -/
def State.setIdx (s : State) (v : Nat) : State := { s with idx := trunc s.cfg.idxw v }

/-- Write `CMPB`, one indivisible transfer of `REG_BITS` bits (R23, R66). -/
def State.setCmpb (s : State) (v : Nat) : State := { s with cmpb := trunc s.cfg.regBits v }

/-- Write `CNT`; it keeps its `TIMER_BITS` bits (R25, R153). -/
def State.setCnt (s : State) (v : Nat) : State := { s with cnt := trunc s.cfg.timerBits v }

/-- `TABLE[i]` of this machine (R53). -/
def State.table (s : State) (i : Nat) : Option Nat := Memory.read s.cfg s.rom i

/-- An operation under its guard: its next state, or the verdict `guard_false` (R15, R171). -/
def issue (guard : Bool) (t : State) : Host.Outcome State Fault Refusal :=
  if guard then .next t else .refused .guardFalse

/-- The bookkeeping of a wrap: `n_ovf`, `n_lost`, `ATRACE` (R39). -/
def State.recordWrap (s : State) : State :=
  { s with ghost := { s.ghost with
      atrace := s.ghost.atrace ++ [s.cmpb]
      nOvf := s.ghost.nOvf + 1
      nLost := s.ghost.nLost + s.lostByWrap } }

/-- The wrap: the counter returns to 0, the buffer is latched (R124) and the overflow event is raised
(R123, R172), all at once. -/
def State.wrap (s : State) : State :=
  { s.recordWrap with cnt := 0, cmpa := s.cmpb, ovf := ovfAfterWrap }

/-- The effect of a tick (R123). -/
def State.tickEffect (s : State) : State := if s.atTop then s.wrap else s.setCnt (s.cnt + 1)

/-- The effect of one system clock (R122): nothing while the timer does not run, a tick on the last clock
of the prescaler's count, and one more clock counted otherwise. `DIV` at 1023: assumption log 11. -/
def State.clockEffect (s : State) : State :=
  if s.timerRuns then
    if s.tickDue then State.tickEffect { s with div := 0#10 } else { s with div := s.div + 1#10 }
  else s

/-- Taking the overflow interrupt (R141, R178): nothing is saved, the pending flag and the global enable
are cleared, and control goes to the first step of the one hard-wired handler. -/
def State.enterInterrupt (s : State) : State :=
  { s with
    ovf := false
    ctrl := { s.ctrl with gie := false }
    hpc := 1#3
    ghost := { s.ghost with nIsr := s.ghost.nIsr + 1 } }

/-- Returning from the overflow interrupt (R146, R179): the global enable is set and SEQ is idle. -/
def State.returnFromInterrupt (s : State) : State :=
  { s with ctrl := { s.ctrl with gie := true }, hpc := 0#3 }

/-- Write a sample to `CMPB` from the handler, with `WTRACE` (R143, R39). -/
def State.writeSample (s : State) (v : Nat) : State :=
  { s.setCmpb v with
    hpc := 3#3
    ghost := { s.ghost with wtrace := s.ghost.wtrace ++ [trunc s.cfg.regBits v] } }

/-- Every register to 0 (R200). The build-time parameters, the ROM, the bookkeeping and the schedule are
not registers and stay (R202, R39). -/
def State.clearRegisters (s : State) : State :=
  { State.powerOn s.cfg s.rom with ghost := s.ghost, pending := s.pending, slot := s.slot }

/-- The condition under which an agent may issue an operation (the `guard:` of its rule, R15). -/
def guardOf (i : Instr) (s : State) : Bool :=
  match i with
  | .idle => s.fgFree
  | .setgie _ => s.fgFree
  | .setmode _ => s.fgFree
  | .setps _ => s.fgFree
  | .pinout => s.fgFree
  | .install => s.fgFree
  | .wrcmpb _ => s.fgFree
  | .reset => true
  | .clk => true
  | .tick => s.timerRuns
  | .ienter => s.canEnter
  | .ldidx => s.hpc == 1#3
  | .wrcmp => s.hpc == 2#3
  | .incidx => s.hpc == 3#3
  | .mskidx => s.hpc == 4#3
  | .iret => s.hpc == 5#3

/-- The state with what the hardware's own selection of the operation takes (R33, R100, R121, R173):
where the guard already holds nothing changes; else the registers the guard reads are set so that it
holds, and no other. `State.withFetchWord` uses it; no operation does. Assumption log 5. -/
def State.arrangeIssue (s : State) (i : Instr) : State :=
  if guardOf i s then s
  else match i with
    | .idle => { s with hpc := 0#3 }
    | .setgie _ => { s with hpc := 0#3 }
    | .setmode _ => { s with hpc := 0#3 }
    | .setps _ => { s with hpc := 0#3 }
    | .pinout => { s with hpc := 0#3 }
    | .install => { s with hpc := 0#3 }
    | .wrcmpb _ => { s with hpc := 0#3 }
    | .reset => s
    | .clk => s
    | .tick =>
      { s with ctrl := { s.ctrl with mode := true, ps := if s.ctrl.ps = 0#3 then 1#3 else s.ctrl.ps } }
    | .ienter => { s with hpc := 0#3, ovf := true, ctrl := { s.ctrl with ovie := true, gie := true } }
    | .ldidx => { s with hpc := 1#3 }
    | .wrcmp => { s with hpc := 2#3 }
    | .incidx => { s with hpc := 3#3 }
    | .mskidx => { s with hpc := 4#3 }
    | .iret => { s with hpc := 5#3 }

end Sys2Proof.Machine
end

