-- ==== Sys2Proof/Machine/HostPort.lean ====
section
/-! DEFINITION. The operations of the foreground agent on the host port (R100 to R107). Each is held while
SEQ is in service (R100). -/

namespace Sys2Proof.Machine

/-- `IDLE` (R101). -/
def execIdle (s : State) : Host.Outcome State Fault Refusal := issue s.fgFree s

/-- `SETGIE b` (R102). -/
def execSetgie (b : Bool) (s : State) : Host.Outcome State Fault Refusal :=
  issue s.fgFree { s with ctrl := { s.ctrl with gie := b } }

/-- `SETMODE b` (R103). -/
def execSetmode (b : Bool) (s : State) : Host.Outcome State Fault Refusal :=
  issue s.fgFree { s with ctrl := { s.ctrl with mode := b } }

/-- `SETPS c` (R104): the code is written and the divider restarts. -/
def execSetps (c : BitVec 3) (s : State) : Host.Outcome State Fault Refusal :=
  issue s.fgFree { s with ctrl := { s.ctrl with ps := c }, div := 0#10 }

/-- `PINOUT` (R105). -/
def execPinout (s : State) : Host.Outcome State Fault Refusal :=
  issue s.fgFree { s with ctrl := { s.ctrl with poe := true } }

/-- `INSTALL` (R106): a pending event stays pending. -/
def execInstall (s : State) : Host.Outcome State Fault Refusal :=
  issue s.fgFree { s with ctrl := { s.ctrl with ovie := true } }

/-- `WRCMPB v` (R107): the buffer alone; the value is compared from the next wrap on (R124). -/
def execWrcmpb (v : BitVec 12) (s : State) : Host.Outcome State Fault Refusal :=
  issue s.fgFree (s.setCmpb v.toNat)

end Sys2Proof.Machine
end

