-- ==== Sys2Proof/Machine/Reset.lean ====
section
/-! DEFINITION. The reset operation (R200 to R202). -/

namespace Sys2Proof.Machine

/-- `RESET` (R200): at any point, also in service; every register is cleared. -/
def execReset (s : State) : Host.Outcome State Fault Refusal := issue true s.clearRegisters

end Sys2Proof.Machine
end

