-- ==== Sys2Proof/Machine/Sequencer.lean ====
section
/-! DEFINITION. The operations of the sequencer, the hard-wired overflow handler (R140 to R146). -/

namespace Sys2Proof.Machine

/-- `IENTER` (R141). -/
def execIenter (s : State) : Host.Outcome State Fault Refusal := issue s.canEnter s.enterInterrupt

/-- `LDIDX` (R142). -/
def execLdidx (s : State) : Host.Outcome State Fault Refusal :=
  issue (s.hpc == 1#3) { s with w0 := s.idx, hpc := 2#3 }

/-- `WRCMP` (R143). A read at or past `N` is the fault of R54; a table with no sample at an index below
`N` is no table of SWSEQ (R58, assumption log 9). -/
def execWrcmp (s : State) : Host.Outcome State Fault Refusal :=
  if s.hpc == 2#3 then
    if s.w0 < s.cfg.n then
      match s.table s.w0 with
      | some v => .next (s.writeSample v)
      | none => .refused .badConfiguration
    else .fault .tableIndexOutOfRange
  else .refused .guardFalse

/-- `INCIDX` (R144). -/
def execIncidx (s : State) : Host.Outcome State Fault Refusal :=
  issue (s.hpc == 3#3) { s.setIdx (s.idx + 1) with hpc := 4#3 }

/-- `MSKIDX` (R145). -/
def execMskidx (s : State) : Host.Outcome State Fault Refusal :=
  issue (s.hpc == 4#3) { s with idx := s.idx &&& s.cfg.mask, hpc := 5#3 }

/-- `IRET` (R146). -/
def execIret (s : State) : Host.Outcome State Fault Refusal := issue (s.hpc == 5#3) s.returnFromInterrupt

end Sys2Proof.Machine
end

