-- ==== Sys2Proof/Machine/Timer.lean ====
section
/-! DEFINITION. The operations of the timer (R120 to R124), which nothing else holds. -/

namespace Sys2Proof.Machine

/-- `CLK` (R122). -/
def execClk (s : State) : Host.Outcome State Fault Refusal := issue true s.clockEffect

/-- `TICK` as a word of its own (R123). -/
def execTick (s : State) : Host.Outcome State Fault Refusal := issue s.timerRuns s.tickEffect

end Sys2Proof.Machine
end

