-- ==== Sys2Proof/Machine/Dispatch.lean ====
section
/-! DEFINITION. One arm for each operation of the opcode map (R83). -/

namespace Sys2Proof.Machine

def exec (i : Instr) (s : State) : Host.Outcome State Fault Refusal :=
  match i with
  | .idle => Sys2Proof.Machine.execIdle s
  | .setgie b => Sys2Proof.Machine.execSetgie b s
  | .setmode b => Sys2Proof.Machine.execSetmode b s
  | .setps c => Sys2Proof.Machine.execSetps c s
  | .pinout => Sys2Proof.Machine.execPinout s
  | .install => Sys2Proof.Machine.execInstall s
  | .wrcmpb v => Sys2Proof.Machine.execWrcmpb v s
  | .reset => Sys2Proof.Machine.execReset s
  | .clk => Sys2Proof.Machine.execClk s
  | .tick => Sys2Proof.Machine.execTick s
  | .ienter => Sys2Proof.Machine.execIenter s
  | .ldidx => Sys2Proof.Machine.execLdidx s
  | .wrcmp => Sys2Proof.Machine.execWrcmp s
  | .incidx => Sys2Proof.Machine.execIncidx s
  | .mskidx => Sys2Proof.Machine.execMskidx s
  | .iret => Sys2Proof.Machine.execIret s

end Sys2Proof.Machine
end

