-- ==== Sys2Proof/WellFormed.lean ====
section
/-! DEFINITION. Which operations can be written as a word, and which pseudo-instructions can be
assembled. -/

namespace Sys2Proof

/-- The operand is in its range: `0 <= v <= REG_MAX` for `WRCMPB v` (R82, R107). The other operands fill
their field exactly. -/
def Instr.wf (regBits : Nat) : Instr → Bool
  | .wrcmpb v => decide (v.toNat < 2 ^ regBits)
  | .idle => true
  | .setgie _ => true
  | .setmode _ => true
  | .setps _ => true
  | .pinout => true
  | .install => true
  | .reset => true
  | .clk => true
  | .tick => true
  | .ienter => true
  | .ldidx => true
  | .wrcmp => true
  | .incidx => true
  | .mskidx => true
  | .iret => true

/-- The prescaler factors SWSEQ supports (R7). -/
def prescalerFactors : List Nat := [1, 8, 32, 64, 128, 256, 1024]

/-- A pseudo-instruction's factor is a supported one; any other is an assembly-time error (R89). -/
def Pseudo.wf : Pseudo → Bool
  | .configure p _ => prescalerFactors.contains p
  | .setup p => prescalerFactors.contains p
  | .di => true
  | .ei => true
  | .onOverflow => true
  | .service => true
  | .period => true
  | .cperiod => true

end Sys2Proof
end

