-- ==== Sys2Proof/Decode.lean ====
section
/-! DEFINITION. The operation word: its formats (R81), the opcode map (R83), decoding (R87) and
encoding (R87). -/

namespace Sys2Proof

/-- The four formats of R81. -/
inductive Format where
  | z
  | b
  | p
  | v
  deriving DecidableEq, Repr

/-- How many low bits of `ARG` a format uses (R81); the bits above them must be zero. -/
def Format.argBits (regBits : Nat) : Format → Nat
  | .z => 0
  | .b => 1
  | .p => 3
  | .v => regBits

/-- One row of the opcode map (R83). -/
structure OpRow where
  opc : BitVec 4
  mnemonic : String
  format : Format
  agent : Agent
  deriving DecidableEq, Repr

/-- The opcode map of R83, in the order of `OPC`. -/
def opcodeMap : List OpRow :=
  [ ⟨0x0#4, "IDLE", .z, .fg⟩
  , ⟨0x1#4, "SETGIE", .b, .fg⟩
  , ⟨0x2#4, "SETMODE", .b, .fg⟩
  , ⟨0x3#4, "SETPS", .p, .fg⟩
  , ⟨0x4#4, "PINOUT", .z, .fg⟩
  , ⟨0x5#4, "INSTALL", .z, .fg⟩
  , ⟨0x6#4, "WRCMPB", .v, .fg⟩
  , ⟨0x7#4, "RESET", .z, .rst⟩ ] ++
  [ ⟨0x8#4, "CLK", .z, .tmr⟩
  , ⟨0x9#4, "TICK", .z, .tmr⟩
  , ⟨0xA#4, "IENTER", .z, .seq⟩
  , ⟨0xB#4, "LDIDX", .z, .seq⟩
  , ⟨0xC#4, "WRCMP", .z, .seq⟩
  , ⟨0xD#4, "INCIDX", .z, .seq⟩
  , ⟨0xE#4, "MSKIDX", .z, .seq⟩
  , ⟨0xF#4, "IRET", .z, .seq⟩ ]

/-- A row's `match` word: its code in bits 15:12 (R83). -/
def OpRow.matchWord (r : OpRow) : OpWord := r.opc ++ 0#12

/-- A row's `mask` word: bits 15:12 and the must-be-zero bits of `ARG` (R81, R83);
`0xF000 | (0x0FFF & ~REG_MAX)` for `WRCMPB`. -/
def OpRow.maskWord (regBits : Nat) (r : OpRow) : OpWord :=
  0xF000#16 ||| (0x0FFF#16 &&& ~~~(BitVec.ofNat 16 (2 ^ r.format.argBits regBits - 1)))

/-- The word spells the row's operation: `(w & mask) = match` (R83). -/
def OpRow.spells (regBits : Nat) (r : OpRow) (w : OpWord) : Bool :=
  w &&& r.maskWord regBits == r.matchWord

/-- `OPC`, bits 15:12 (R81). -/
def opcField (w : OpWord) : BitVec 4 := w.extractLsb' 12 4

/-- `ARG`, bits 11:0 (R81). -/
def argField (w : OpWord) : BitVec 12 := w.extractLsb' 0 12

/-- The format of each code (R83). -/
def formatOf (opc : BitVec 4) : Format :=
  match opc.toNat with
  | 1 => .b
  | 2 => .b
  | 3 => .p
  | 6 => .v
  | _ => .z

/-- The operand of format `B`: `b = ARG[0]` (R82). -/
def operandB (arg : BitVec 12) : Bool := arg.getLsbD 0

/-- The operand of format `P`: `c = ARG[2:0]` (R82). -/
def operandP (arg : BitVec 12) : BitVec 3 := arg.extractLsb' 0 3

/-- The operation a code stands for, with the operand its format takes from `ARG` (R82, R83). All
sixteen codes are assigned (R85). -/
def assembleInstr (opc : BitVec 4) (arg : BitVec 12) : Instr :=
  match opc.toNat with
  | 0 => .idle
  | 1 => .setgie (operandB arg)
  | 2 => .setmode (operandB arg)
  | 3 => .setps (operandP arg)
  | 4 => .pinout
  | 5 => .install
  | 6 => .wrcmpb arg
  | 7 => .reset
  | 8 => .clk
  | 9 => .tick
  | 10 => .ienter
  | 11 => .ldidx
  | 12 => .wrcmp
  | 13 => .incidx
  | 14 => .mskidx
  | _ => .iret

/-- The decoder's one verdict on a word it does not read (R85, R86). -/
inductive DecodeRefusal where
  /-- A must-be-zero bit of `ARG` is 1. The word has no meaning; safe. -/
  | illegal
  deriving DecidableEq, Repr

/-- The must-be-zero bits of `ARG` are zero: nothing stands above the bits the format uses (R81). -/
def mustBeZeroHolds (regBits : Nat) (w : OpWord) : Bool :=
  decide ((argField w).toNat < 2 ^ (formatOf (opcField w)).argBits regBits)

/-- `decode(w)` (R87): total; a word with a must-be-zero bit set is illegal and is never read as another
operation (R86). -/
def decode (regBits : Nat) (w : OpWord) : Except DecodeRefusal Instr :=
  if mustBeZeroHolds regBits w then .ok (assembleInstr (opcField w) (argField w)) else .error .illegal

/-- The code of an operation (R83). -/
def Instr.opcode : Instr → BitVec 4
  | .idle => 0x0#4
  | .setgie _ => 0x1#4
  | .setmode _ => 0x2#4
  | .setps _ => 0x3#4
  | .pinout => 0x4#4
  | .install => 0x5#4
  | .wrcmpb _ => 0x6#4
  | .reset => 0x7#4
  | .clk => 0x8#4
  | .tick => 0x9#4
  | .ienter => 0xA#4
  | .ldidx => 0xB#4
  | .wrcmp => 0xC#4
  | .incidx => 0xD#4
  | .mskidx => 0xE#4
  | .iret => 0xF#4

/-- The operand field of an operation: the operand in the low bits, zeros above (R81, R82). -/
def Instr.argument : Instr → BitVec 12
  | .setgie b => (BitVec.ofBool b).setWidth 12
  | .setmode b => (BitVec.ofBool b).setWidth 12
  | .setps c => c.setWidth 12
  | .wrcmpb v => v
  | .idle => 0#12
  | .pinout => 0#12
  | .install => 0#12
  | .reset => 0#12
  | .clk => 0#12
  | .tick => 0#12
  | .ienter => 0#12
  | .ldidx => 0#12
  | .wrcmp => 0#12
  | .incidx => 0#12
  | .mskidx => 0#12
  | .iret => 0#12

/-- `encode(o)`: `OPC` in bits 15:12, `ARG` in bits 11:0 (R81, R87). -/
def encode (i : Instr) : OpWord := i.opcode ++ i.argument

/-- What the decoder reads from an instruction whose bits are `w`, at the table's `REG_BITS = 8` (R83):
every bit above `nbits` is 0, and an operation word is 16 bits (R80), so a longer instruction is none.
Assumption log 18. -/
def decodeTableWord (nbits w : Nat) : Option Instr :=
  if nbits ≤ 16 then (decode 8 (BitVec.ofNat 16 (w % 2 ^ nbits))).toOption else none

end Sys2Proof
end

