-- ==== Sys2Proof/Machine/Schedule.lean ====
section
/-! DEFINITION. Where the next operation comes from: the schedule's lines (R14, R70, R80, R88), and the
verdicts on a line that names no operation of its agent (R84, R86). -/

namespace Sys2Proof.Machine

/-- The next line of the schedule and the state with it taken: the first placed line or, when none is
left, the next line of the free schedule (assumption log 4). -/
def State.takeLine (s : State) : Line × State :=
  match s.pending with
  | l :: rest => (l, { s with pending := rest })
  | [] => (Config.schedule s.slot, { s with slot := s.slot + 1 })

/-- The operation of a line: its word decoded (R87), refused as `illegal_word` where it is none (R86) and
as `wrong_agent` where the line names an agent that does not issue it (R84). An agent left out is implied
by the operation (R88). DESIGN CHOICE, safe: the word is judged before the agent; assumption log 6. -/
def readLine (regBits : Nat) (l : Line) : Except Refusal Instr :=
  match decode regBits l.2 with
  | .error _ => .error .illegalWord
  | .ok i =>
    match l.1 with
    | none => .ok i
    | some a => if a = i.issuer then .ok i else .error .wrongAgent

/-- The state with a line placed before all others. -/
def State.place (s : State) (l : Line) : State := { s with pending := l :: s.pending }

/-- The state in which the hardware's next operation is the word's (assumption log 5): the word is placed
first and, where the word spells an operation, its guard holds. -/
def State.placeIssuable (s : State) (w : OpWord) : State :=
  match decode s.cfg.regBits w with
  | .ok i => (s.arrangeIssue i).place (none, w)
  | .error _ => s.place (none, w)

end Sys2Proof.Machine
end

