-- ==== Sys2Proof/Machine/Step.lean ====
section
/-! DEFINITION. One step: the schedule's next line is taken and its operation performed (R70). -/

namespace Sys2Proof.Machine

/-- One atomic operation of one agent (R13, R70), or the verdict on its line (R84, R86). -/
def step (s : State) : Host.Outcome State Fault Refusal :=
  match readLine s.cfg.regBits s.takeLine.1 with
  | .ok i => exec i s.takeLine.2
  | .error r => .refused r

/-- The state whose very next step runs the operation word `w` of `nbits` bits. SWSEQ fetches no
instructions (R75): the word becomes the schedule's next line, and what the hardware selects that
operation by is set where it selects another (R33, R140). Assumption log 5. -/
def State.withFetchWord (s : State) (nbits w : Nat) : State :=
  s.placeIssuable (BitVec.ofNat 16 (w % 2 ^ nbits))

end Sys2Proof.Machine
end

