-- ==== Sys2Proof/Machine/Assembler.lean ====
section
/-! DEFINITION. Schedules as text: the pseudo-instructions (R89) and the line syntax with the `.rep`
directive (R88). Reading conventions that R88 leaves open: assumption log 17. -/

namespace Sys2Proof.Machine

/-- The expansion of a pseudo-instruction (R89); a factor that is not supported is an assembly-time error. -/
def expandPseudo (c : Config) : Pseudo → Option (List Instr)
  | .di => some [.setgie false]
  | .ei => some [.setgie true]
  | .configure p m =>
    match pscode p with
    | some code => some [.setmode m, .setps code]
    | none => none
  | .onOverflow => some [.install]
  | .setup p =>
    match pscode p with
    | some code => some [.setgie false, .setmode true, .setps code, .pinout, .install, .setgie true]
    | none => none
  | .service => some [.ienter, .ldidx, .wrcmp, .incidx, .mskidx, .iret]
  | .period => some (List.replicate (2 ^ c.timerBits) .tick)
  | .cperiod => some (List.replicate (c.prescaler * 2 ^ c.timerBits) .clk)

/-- The tokens of a schedule text. -/
inductive Tok where
  | word (w : List Char)
  | colon
  | openBrace
  | closeBrace
  | newline
  deriving DecidableEq, Repr

/-- A word read so far, last character first, as a token. -/
def flush (acc : List Char) : List Tok := if acc.isEmpty then [] else [.word acc.reverse]

/-- The tokens of a text: `;` starts a comment that ends with its line (R88); blanks and commas separate
words. The first argument says whether a comment is open, the second holds the word read so far. -/
def lex : Bool → List Char → List Char → List Tok
  | _, acc, [] => flush acc
  | true, acc, ch :: rest => if ch = '\n' then .newline :: lex false [] rest else lex true acc rest
  | false, acc, ch :: rest =>
    if ch = ';' then flush acc ++ lex true [] rest
    else if ch = '\n' then flush acc ++ .newline :: lex false [] rest
    else if ch = ' ' ∨ ch = '\t' ∨ ch = '\r' ∨ ch = ',' then flush acc ++ lex false [] rest
    else if ch = ':' then flush acc ++ .colon :: lex false [] rest
    else if ch.toNat = 123 then flush acc ++ .openBrace :: lex false [] rest
    else if ch.toNat = 125 then flush acc ++ .closeBrace :: lex false [] rest
    else lex false (ch :: acc) rest

/-- The value of a digit in a base. -/
def digitValue (base : Nat) (ch : Char) : Option Nat :=
  let k := ch.toNat
  let v := if 48 ≤ k ∧ k ≤ 57 then k - 48
    else if 65 ≤ k ∧ k ≤ 70 then k - 55
    else if 97 ≤ k ∧ k ≤ 102 then k - 87
    else base
  if v < base then some v else none

/-- The value of a digit sequence, most significant digit first, after the value read so far. -/
def digitsValue (base : Nat) : Nat → List Char → Option Nat
  | acc, [] => some acc
  | acc, ch :: rest =>
    match digitValue base ch with
    | some d => digitsValue base (acc * base + d) rest
    | none => none

/-- An unsigned number, decimal or `0x` hexadecimal (R88). -/
def numberOf : List Char → Option Nat
  | [] => none
  | '0' :: 'x' :: d :: rest => digitsValue 16 0 (d :: rest)
  | ds => digitsValue 10 0 ds

/-- The agent prefixes (R88). -/
def agentOf (w : List Char) : Option Agent :=
  if w = ['F', 'G'] then some .fg
  else if w = ['R', 'S', 'T'] then some .rst
  else if w = ['T', 'M', 'R'] then some .tmr
  else if w = ['S', 'E', 'Q'] then some .seq
  else none

/-- A one-bit operand: 0 or 1 (R81). -/
def bitOperand : Nat → Option Bool
  | 0 => some false
  | 1 => some true
  | _ => none

/-- The operations of a mnemonic or pseudo-instruction with its operands (R83, R89); an operand out of its
range is an assembly-time error (R82). -/
def opsOf (c : Config) (mnemonic : List Char) (operands : List Nat) : Option (List Instr) :=
  match String.ofList mnemonic, operands with
  | "IDLE", [] => some [.idle]
  | "SETGIE", [b] => (bitOperand b).map fun v => [.setgie v]
  | "SETMODE", [b] => (bitOperand b).map fun v => [.setmode v]
  | "SETPS", [k] => if k < 8 then some [.setps (BitVec.ofNat 3 k)] else none
  | "PINOUT", [] => some [.pinout]
  | "INSTALL", [] => some [.install]
  | "WRCMPB", [v] => if v < 2 ^ c.regBits then some [.wrcmpb (BitVec.ofNat 12 v)] else none
  | "RESET", [] => some [.reset]
  | "CLK", [] => some [.clk]
  | "TICK", [] => some [.tick]
  | "IENTER", [] => some [.ienter]
  | "LDIDX", [] => some [.ldidx]
  | "WRCMP", [] => some [.wrcmp]
  | "INCIDX", [] => some [.incidx]
  | "MSKIDX", [] => some [.mskidx]
  | "IRET", [] => some [.iret]
  | "DI", [] => expandPseudo c .di
  | "EI", [] => expandPseudo c .ei
  | "CONFIGURE", [p, m] => (bitOperand m).bind fun v => expandPseudo c (.configure p v)
  | "ONOVERFLOW", [] => expandPseudo c .onOverflow
  | "SETUP", [p] => expandPseudo c (.setup p)
  | "SERVICE", [] => expandPseudo c .service
  | "PERIOD", [] => expandPseudo c .period
  | "CPERIOD", [] => expandPseudo c .cperiod
  | _, _ => none

/-- The numbers that stand before the end of a statement, and what follows them. -/
def operandsOf : List Tok → Option (List Nat × List Tok)
  | .word w :: rest =>
    match numberOf w, operandsOf rest with
    | some k, some (ks, after) => some (k :: ks, after)
    | _, _ => none
  | .colon :: _ => none
  | .openBrace :: _ => none
  | .closeBrace :: rest => some ([], .closeBrace :: rest)
  | .newline :: rest => some ([], rest)
  | [] => some ([], [])

/-- The lines up to the end of the text, or of the enclosing `.rep` block where `inside` says so. `agent` is
the prefix in force. The first argument bounds the number of statements and block ends read. -/
def parseBlock (c : Config) : Nat → Bool → Option Agent → List Tok → Option (List Line × List Tok)
  | 0, _, _, _ => none
  | _ + 1, inside, _, [] => if inside then none else some ([], [])
  | fuel + 1, inside, agent, .newline :: rest => parseBlock c fuel inside agent rest
  | _ + 1, inside, _, .closeBrace :: rest => if inside then some ([], rest) else none
  | _ + 1, _, _, .colon :: _ => none
  | _ + 1, _, _, .openBrace :: _ => none
  | fuel + 1, inside, agent, .word w :: rest =>
    let (prefixed, name, after) := match rest with
      | .colon :: .word v :: more => (agentOf w, v, more)
      | _ => (agent, w, rest)
    let prefixOk := match rest with
      | .colon :: _ => (agentOf w).isSome
      | _ => true
    if prefixOk = false then none
    else if name = ['.', 'r', 'e', 'p'] then
      match after with
      | .word k :: .openBrace :: body =>
        match numberOf k, parseBlock c fuel true prefixed body with
        | some count, some (lines, next) =>
          match parseBlock c fuel inside agent next with
          | some (more, done) => some ((List.replicate count lines).flatten ++ more, done)
          | none => none
        | _, _ => none
      | _ => none
    else
      match operandsOf after with
      | some (operands, next) =>
        match opsOf c name operands, parseBlock c fuel inside agent next with
        | some ops, some (more, done) => some (ops.map (fun i => (prefixed, encode i)) ++ more, done)
        | _, _ => none
      | none => none

/-- The schedule a text writes down (R88), or none where it is no schedule text. -/
def assemble (c : Config) (text : List Char) : Option (List Line) :=
  let toks := lex false [] text
  match parseBlock c (toks.length + 1) false none toks with
  | some (lines, []) => some lines
  | _ => none

end Sys2Proof.Machine
end

