-- ==== Sys2Proof/Machine/Pin.lean ====
section
/-! DEFINITION. The block's only output, a combinational function of the state (R35). -/

namespace Sys2Proof.Machine

/-- The levels of the output: not driven (`Z`), 0, 1 (R35). -/
inductive PinLevel where
  | z
  | low
  | high
  deriving DecidableEq, Repr

/-- The comparison of the counter with the active compare value (R35). -/
def State.compareHolds (s : State) : Bool :=
  match s.cfg.pinRule with
  | .lt => decide (s.cnt < s.cmpa)
  | .le => decide (s.cnt ≤ s.cmpa)

/-- `PIN` (R35). Assumption log 16. -/
def State.pin (s : State) : PinLevel :=
  if s.ctrl.poe = false then .z
  else if s.ctrl.mode = false then .low
  else if s.compareHolds then .high
  else .low

/-- How many of a PWM period's counter values the pin is high at, `CMPA` and the control register staying
as they are (R126). -/
def State.highTicks (s : State) : Nat :=
  ((List.range (2 ^ s.cfg.timerBits)).filter fun k => State.pin { s with cnt := k } = .high).length

end Sys2Proof.Machine
end

