-- ==== Sys2Proof/Machine/Build.lean ====
section
/-! DEFINITION. Building a machine of its build-time parameters: the checks of R8, R9, R57 and R58, and the
verdict `bad_configuration` (R171). -/

namespace Sys2Proof.Machine

/-- `n` is a power of two. -/
def isPowerOfTwo (n : Nat) : Bool := n != 0 && n &&& (n - 1) == 0

/-- The parameters are ones SWSEQ supports: `N` in its set and a power of two (R6, R8), `PRESCALER` in its
set (R7, R8), `1 <= TIMER_BITS <= 12` (R9), `IDXW >= IDX_BITS + 1` (R21, assumption log 13). -/
def configOk (c : Config) : Bool :=
  [256, 512, 1024].contains c.n && isPowerOfTwo c.n && prescalerFactors.contains c.prescaler
    && decide (1 ≤ c.timerBits) && decide (c.timerBits ≤ 12) && decide (c.idxBits + 1 ≤ c.idxw)

/-- The ROM of the `TABLE` parameter (R11): the default contents where none is given (R63), else the
samples given, one for each index (R58) and each in `0 .. REG_MAX` (R57). -/
def romOf (c : Config) : Option (List Nat) → Option Memory
  | none => if Memory.tableOk c [] then some [] else none
  | some t => if t.length = c.n ∧ t.all (fun v => decide (v ≤ c.regMax)) then some (Memory.program c t) else none

/-- A machine of the parameters `c` and the table `t` after power-on (R201), or the verdict
`bad_configuration` (R8, R171). -/
def build (c : Config) (t : Option (List Nat)) : Host.Outcome State Fault Refusal :=
  if configOk c then
    match romOf c t with
    | some rom => .next (State.powerOn c rom)
    | none => .refused .badConfiguration
  else .refused .badConfiguration

end Sys2Proof.Machine
end

