-- ==== Sys2Proof/Machine/Setup.lean ====
section
/-! DEFINITION. The contract on the foreground's program (R205 to R208, R215) and the admission of a
schedule: the verdicts of R171 that a schedule can be given before any run. The operations themselves do
not check the contract, as the hardware does not (R215). Assumption log 7. -/

namespace Sys2Proof.Machine

/-- What the foreground has done of its setup since the last reset (R207). -/
structure SetupProgress where
  /-- The critical section is open: `SETGIE 0` has been issued. -/
  opened : Bool
  /-- `SETMODE 1` has been issued. -/
  mode : Bool
  /-- `SETPS PSCODE(PRESCALER)` has been issued. -/
  ps : Bool
  /-- `PINOUT` has been issued. -/
  pin : Bool
  /-- `INSTALL` has been issued. -/
  inst : Bool
  /-- Setup has completed: `SETGIE 1` has been issued after all the others. -/
  complete : Bool
  deriving DecidableEq, Repr

/-- Nothing done yet, as after every reset (R207). -/
def SetupProgress.start : SetupProgress :=
  { opened := false, mode := false, ps := false, pin := false, inst := false, complete := false }

/-- A setup step that must come inside the critical section and once (R207). -/
def onceInside (p : SetupProgress) (doneAlready : Bool) (after : SetupProgress) : Except Refusal SetupProgress :=
  if p.opened && !doneAlready then .ok after else .error .illFormedSetup

/-- A foreground operation before setup completes (R207): first `SETGIE 0`; then, in any order, each of
the four setup steps once and any number of `WRCMPB` and `IDLE`; then `SETGIE 1`. -/
def duringSetup (prescaler : Nat) (p : SetupProgress) (i : Instr) : Except Refusal SetupProgress :=
  match i with
  | .setgie false => if p.opened then .error .illFormedSetup else .ok { p with opened := true }
  | .setgie true =>
    if p.opened && p.mode && p.ps && p.pin && p.inst then .ok { p with complete := true }
    else .error .illFormedSetup
  | .setmode true => onceInside p p.mode { p with mode := true }
  | .setmode false => .error .illFormedSetup
  | .setps c => if pscode prescaler = some c then onceInside p p.ps { p with ps := true } else .error .illFormedSetup
  | .pinout => onceInside p p.pin { p with pin := true }
  | .install => onceInside p p.inst { p with inst := true }
  | .wrcmpb _ => onceInside p false p
  | .idle => onceInside p false p
  | .reset => .ok p
  | .clk => .ok p
  | .tick => .ok p
  | .ienter => .ok p
  | .ldidx => .ok p
  | .wrcmp => .ok p
  | .incidx => .ok p
  | .mskidx => .ok p
  | .iret => .ok p

/-- One operation of a schedule against the contract: `RESET` starts the foreground's program again, the
hardware's own operations are no part of it, and after setup completes the foreground may only idle
(R207, R215). -/
def observe (prescaler : Nat) (p : SetupProgress) (i : Instr) : Except Refusal SetupProgress :=
  match i.issuer with
  | .rst => .ok SetupProgress.start
  | .tmr => .ok p
  | .seq => .ok p
  | .fg =>
    if p.complete then
      if i = .idle then .ok p else .error .foregroundWriteAfterSetup
    else duringSetup prescaler p i

/-- A sequence of operations against the contract. A schedule is a finite prefix of a run (R14), so a setup
that is well formed as far as it goes is admitted (assumption log 8). -/
def checkOps (prescaler : Nat) : SetupProgress → List Instr → Except Refusal SetupProgress
  | p, [] => .ok p
  | p, i :: rest =>
    match observe prescaler p i with
    | .ok q => checkOps prescaler q rest
    | .error r => .error r

/-- The lines of a schedule as operations, or the first line's verdict that has one (R84, R86). -/
def readLines (regBits : Nat) : List Line → Except Refusal (List Instr)
  | [] => .ok []
  | l :: rest =>
    match readLine regBits l with
    | .error r => .error r
    | .ok i =>
      match readLines regBits rest with
      | .error r => .error r
      | .ok is => .ok (i :: is)

/-- The verdict on a whole schedule before any run (R171): every line names an operation of its agent, and
the foreground's program keeps its contract. R171 ranks no verdicts. DESIGN CHOICE, safe: the word and the agent
of every line are judged first, and only then the setup; where several lines have a verdict of one of these two
kinds, the first such line's is given. So `SETMODE 1` before the word 0x6100 is `illegal_word` and not
`ill_formed_setup`. Assumption log 6. -/
def judgeSchedule (c : Config) (lines : List Line) : Except Refusal SetupProgress :=
  match readLines c.regBits lines with
  | .error r => .error r
  | .ok ops => checkOps c.prescaler SetupProgress.start ops

/-- A schedule placed from outside on a machine after power-on (assumption log 5), or the verdict on it. -/
def load (s : State) (lines : List Line) : Host.Outcome State Fault Refusal :=
  match judgeSchedule s.cfg lines with
  | .error r => .refused r
  | .ok _ => .next { s with pending := lines }

end Sys2Proof.Machine
end

