-- ==== Sys2Proof/Machine/Run.lean ====
section
/-! DEFINITION. Sequences of operations and of steps, and a schedule's run on a built machine (R14, R70). -/

namespace Sys2Proof.Machine

/-- The operations in turn, each on the state the one before it left, up to the first stop (R70). -/
def runOps : List Instr → State → Host.Outcome State Fault Refusal
  | [], s => .next s
  | i :: rest, s =>
    match exec i s with
    | .next t => runOps rest t
    | .fault r => .fault r
    | .refused r => .refused r

/-- `k` steps, up to the first stop. -/
def runSteps : Nat → State → Host.Outcome State Fault Refusal
  | 0, s => .next s
  | k + 1, s =>
    match step s with
    | .next t => runSteps k t
    | .fault r => .fault r
    | .refused r => .refused r

/-- The whole of a schedule on a machine built of `c` and `t`, with every verdict of R171. -/
def runSchedule (c : Config) (t : Option (List Nat)) (lines : List Line) : Host.Outcome State Fault Refusal :=
  match build c t with
  | .fault r => .fault r
  | .refused r => .refused r
  | .next s =>
    match load s lines with
    | .fault r => .fault r
    | .refused r => .refused r
    | .next u => runSteps lines.length u

/-- The six operations of one handler invocation (`SERVICE`, R89, R147). -/
def serviceOps : List Instr := [.ienter, .ldidx, .wrcmp, .incidx, .mskidx, .iret]

end Sys2Proof.Machine
end

