-- ==== Sys2Proof/Machine/Timing.lean ====
section
/-! DEFINITION. The timing laws (R221 to R223) and the deadline in clocks (R213), as arithmetic on the
parameters. No operation reads them (R220). -/

namespace Sys2Proof.Machine

/-- A clock frequency and a handler time that a device can have (R10, R12). -/
def timingOk (t : Timing) : Bool := decide (0 < t.fClk) && decide (0 < t.hClks)

/-- One PWM period, the overflow interval, in clocks: `PRESCALER * 2^TIMER_BITS` (R213, R223). -/
def pwmPeriodClocks (c : Config) : Nat := c.prescaler * 2 ^ c.timerBits

/-- One PWM period in seconds, exactly: `PRESCALER * 2^TIMER_BITS / F_CLK` (R221, R223). -/
def pwmPeriodSeconds (c : Config) (t : Timing) : ℚ := (pwmPeriodClocks c : ℚ) / t.fClk

/-- One PWM period in microseconds, exactly (R223). -/
def pwmPeriodMicroseconds (c : Config) (t : Timing) : ℚ := pwmPeriodSeconds c t * 1000000

/-- One wave period in clocks: `N` PWM periods (R221). -/
def wavePeriodClocks (c : Config) : Nat := pwmPeriodClocks c * c.n

/-- `period_seconds = prescaler * 2^timer_bits * N / clock_frequency_hz`, exactly (R221). -/
def periodSeconds (c : Config) (t : Timing) : ℚ := (c.prescaler * 2 ^ c.timerBits * c.n : ℚ) / t.fClk

/-- `frequency_hz = F_CPU / (PRESCALER * 2^TIMER_BITS * SAMPLE_COUNT)`, exactly; 256 is `2^TIMER_BITS` at
8 bits (R222). -/
def frequencyHz (c : Config) (t : Timing) : ℚ := t.fClk / (c.prescaler * 2 ^ c.timerBits * c.n : ℚ)

/-- The deadline in clocks: `H_CLKS < PRESCALER * 2^TIMER_BITS` (R213). -/
def meetsDeadlineInClocks (c : Config) (t : Timing) : Bool := decide (t.hClks < pwmPeriodClocks c)

end Sys2Proof.Machine
end

