-- ==== Sys2Proof/Safety.lean ====
section
/-! DEFINITION. What counts as a safe state and a safe run of SWSEQ: the invariants of R37, the live state
(R208), the deadline premise (R213), the well-formed foreground program (R207), and the contract on the table's generation (R59, R60). -/

namespace Sys2Proof.Machine

/-- The invariants of R37, with the machine's parameters and ROM ones that SWSEQ supports. -/
structure Inv (s : State) : Prop where
  /-- The parameters are supported (R8). -/
  config : configOk s.cfg = true
  /-- The table keeps R57 and R58. -/
  table : Memory.tableOk s.cfg s.rom = true
  /-- The ROM is in its canonical form. -/
  romForm : Memory.wf s.cfg s.rom = true
  /-- R37 item 1, outside `HPC = 4`. -/
  idxRange : s.hpc ≠ 4#3 → s.idx < s.cfg.n
  /-- R37 item 1, at `HPC = 4`. -/
  idxTransient : s.hpc = 4#3 → 1 ≤ s.idx ∧ s.idx ≤ s.cfg.n
  /-- R37 item 2. -/
  w0Range : s.w0 < s.cfg.n
  /-- R37 item 3. -/
  hpcRange : s.hpc.toNat ≤ 5
  /-- R37 item 4. -/
  divRange : s.ctrl.ps ≠ 0#3 → s.div.toNat < presc s.ctrl.ps
  /-- R37 item 5. -/
  serviceMask : s.hpc ≠ 0#3 → s.ctrl.gie = false ∧ s.ctrl.ovie = true
  /-- R37 item 6. -/
  cmpbRange : s.cmpb ≤ s.cfg.regMax
  /-- R37 item 6. -/
  cmpaRange : s.cmpa ≤ s.cfg.regMax
  /-- R37 item 6. -/
  cntRange : s.cnt ≤ s.cfg.top

/-- The block as setup leaves it when it completes: live, with the bits of R208 and of the glossary of
`00_scope.md`. -/
def State.live (s : State) : Bool :=
  s.ctrl.gie && s.ctrl.ovie && s.ctrl.mode && s.ctrl.ps != 0#3

/-- The block is live or, being live, in service, where `IENTER` has cleared `GIE` until `IRET` sets it again
(R178, R179): what R213 means by "while the block is live". DEDUCED; assumption log 20. -/
def State.liveOrInService (s : State) : Bool :=
  (s.ctrl.gie || s.hpc != 0#3) && s.ctrl.ovie && s.ctrl.mode && s.ctrl.ps != 0#3

/-- The operation, performed in this state, wraps the counter (R122, R123). -/
def wrapsAt (i : Instr) (s : State) : Bool :=
  match i with
  | .tick => s.timerRuns && s.atTop
  | .clk => s.timerRuns && s.tickDue && s.atTop
  | .idle => false
  | .setgie _ => false
  | .setmode _ => false
  | .setps _ => false
  | .pinout => false
  | .install => false
  | .wrcmpb _ => false
  | .reset => false
  | .ienter => false
  | .ldidx => false
  | .wrcmp => false
  | .incidx => false
  | .mskidx => false
  | .iret => false

/-- The previous event was taken and its handler has returned (R213). -/
def State.deadlineMet (s : State) : Bool := !s.ovf && s.hpc == 0#3

/-- The deadline premise as a property of a run (R213): just before every wrap that occurs while the block is
live, `OVF = 0` and `HPC = 0`. It asks nothing of the wraps before setup completes. -/
def MeetsDeadline : List Instr → State → Prop
  | [], _ => True
  | i :: rest, s =>
    (wrapsAt i s = true → s.liveOrInService = true → s.deadlineMet = true) ∧ ∀ t, exec i s = .next t → MeetsDeadline rest t

/-- The foreground's operations of a sequence, in order: the FG program that R207 speaks of. -/
def fgProgram (ops : List Instr) : List Instr := ops.filter fun i => decide (i.issuer = .fg)

/-- A foreground program since the last reset that keeps R207 and has completed its setup: `SETGIE 0`; then, in
any order, one `SETMODE 1`, one `SETPS PSCODE(PRESCALER)`, one `PINOUT`, one `INSTALL` and any number of
`WRCMPB` and `IDLE`; then `SETGIE 1`; then `IDLE` only. -/
def WellFormedSetup (prescaler : Nat) (fg : List Instr) : Prop :=
  ∃ code body idles, pscode prescaler = some code ∧
    fg = .setgie false :: (body ++ .setgie true :: idles) ∧
    (∀ i ∈ body, i ∈ [.setmode true, .setps code, .pinout, .install, .idle] ∨ ∃ v, i = .wrcmpb v) ∧
    (∀ i ∈ [Instr.setmode true, .setps code, .pinout, .install], body.count i = 1) ∧
    ∀ i ∈ idles, i = .idle

/-- The generation contract with the details that R60 fixes: `v` is
`floor(REG_MAX/2 + REG_MAX/2 * sin(2*pi*i/N) + 1/2)`. -/
def GeneratedSample (regMax n i v : Nat) : Prop :=
  (v : ℤ) = ⌊(regMax : ℝ) / 2 + (regMax : ℝ) / 2 * Real.sin (2 * Real.pi * (i : ℝ) / (n : ℝ)) + 1 / 2⌋

/-- The largest step between neighbouring samples inside the cycle (R62). -/
def largestStep : List Nat → Nat
  | [] => 0
  | [_] => 0
  | a :: b :: rest => max (max a b - min a b) (largestStep (b :: rest))

end Sys2Proof.Machine
end

