-- ==== Sys2Proof/Certificates/Slice0/Obligations.lean ====
section
/-! DEFINITION. The statements for the provers. Where a statement gives an operation's whole next state as
`{ s with … }`, every field it does not name, the ROM and with it every sample of the table among them, is
as before. -/

open Sys2Proof Sys2Proof.Machine

/-! ## Encoding -/

/-- R87. `decode` answers `illegal` exactly when a must-be-zero bit of `ARG` is 1; a word it reads has the
operation's code in its `OPC` field and is the operation's encoding; and an operation whose operand is in
range is read back from its encoding. For every `REG_BITS`. -/
def Obligations.DecodeAndEncodeAgree : Prop :=
  ∀ regBits : Nat,
    (∀ w : OpWord, decode regBits w = .error .illegal ↔
      ∃ k, (formatOf (opcField w)).argBits regBits ≤ k ∧ k < 12 ∧ w.getLsbD k = true) ∧
    (∀ (w : OpWord) (i : Instr), decode regBits w = .ok i →
      i.opcode = opcField w ∧ i.wf regBits = true ∧ encode i = w) ∧
    (∀ i : Instr, i.wf regBits = true → decode regBits (encode i) = .ok i)

/-- R83. The sixteen rows with their codes, agents, match words and masks at `REG_BITS = 8`, the `WRCMPB`
mask at every width; a word spells the operation of a row iff `(w & mask) = match`; no word spells two rows' operations. -/
def Obligations.RowsSpellTheirOperations : Prop :=
  (opcodeMap.map fun r => (r.mnemonic, r.format, r.agent, r.matchWord, r.maskWord 8)) =
    [ ("IDLE", .z, .fg, 0x0000#16, 0xFFFF#16), ("SETGIE", .b, .fg, 0x1000#16, 0xFFFE#16)
    , ("SETMODE", .b, .fg, 0x2000#16, 0xFFFE#16), ("SETPS", .p, .fg, 0x3000#16, 0xFFF8#16)
    , ("PINOUT", .z, .fg, 0x4000#16, 0xFFFF#16), ("INSTALL", .z, .fg, 0x5000#16, 0xFFFF#16)
    , ("WRCMPB", .v, .fg, 0x6000#16, 0xFF00#16), ("RESET", .z, .rst, 0x7000#16, 0xFFFF#16)
    , ("CLK", .z, .tmr, 0x8000#16, 0xFFFF#16), ("TICK", .z, .tmr, 0x9000#16, 0xFFFF#16)
    , ("IENTER", .z, .seq, 0xA000#16, 0xFFFF#16), ("LDIDX", .z, .seq, 0xB000#16, 0xFFFF#16)
    , ("WRCMP", .z, .seq, 0xC000#16, 0xFFFF#16), ("INCIDX", .z, .seq, 0xD000#16, 0xFFFF#16)
    , ("MSKIDX", .z, .seq, 0xE000#16, 0xFFFF#16), ("IRET", .z, .seq, 0xF000#16, 0xFFFF#16) ] ∧
  (∀ regBits : Nat, regBits ≤ 12 → ∀ r ∈ opcodeMap, r.format = .v →
    r.maskWord regBits = 0xF000#16 ||| (0x0FFF#16 &&& ~~~(BitVec.ofNat 16 (2 ^ regBits - 1)))) ∧
  ∀ regBits : Nat, regBits ≤ 12 → ∀ w : OpWord,
    (∀ r ∈ opcodeMap, r.spells regBits w = true ↔
      ∃ i, decode regBits w = .ok i ∧ i.opcode = r.opc ∧ i.issuer = r.agent) ∧
    (∀ r₁ ∈ opcodeMap, ∀ r₂ ∈ opcodeMap, r₁.spells regBits w = true → r₂.spells regBits w = true → r₁ = r₂)

/-- R94. The worked encodings, read and written, and the illegal words, at `REG_BITS = 8`. -/
def Obligations.WorkedEncodingsReadAsStated : Prop :=
  (∀ p ∈ ([ (.idle, 0x0000#16), (.setgie false, 0x1000#16), (.setgie true, 0x1001#16)
          , (.setmode true, 0x2001#16), (.setps 1#3, 0x3001#16), (.setps 2#3, 0x3002#16)
          , (.setps 7#3, 0x3007#16), (.pinout, 0x4000#16), (.install, 0x5000#16)
          , (.wrcmpb 128#12, 0x6080#16), (.wrcmpb 255#12, 0x60FF#16), (.reset, 0x7000#16)
          , (.clk, 0x8000#16), (.tick, 0x9000#16), (.ienter, 0xA000#16), (.ldidx, 0xB000#16)
          , (.wrcmp, 0xC000#16), (.incidx, 0xD000#16), (.mskidx, 0xE000#16), (.iret, 0xF000#16) ]
          : List (Instr × OpWord)), encode p.1 = p.2 ∧ decode 8 p.2 = .ok p.1) ∧
  (∀ w ∈ ([0x1002#16, 0x3008#16, 0x6100#16, 0x4001#16, 0xF800#16] : List OpWord),
    decode 8 w = .error .illegal)

/-- A step never runs an illegal word, and a schedule that holds one is refused before any run, whatever else it
holds (section 4 of `30_encoding.md`). That the verdict is `illegal_word` also where the line names an agent that
does not issue the word's code is the model's choice: the word is judged first (assumption log 6). -/
def Obligations.IllegalWordsAreRefused : Prop :=
  (∀ s : State, decode s.cfg.regBits s.takeLine.1.2 = .error .illegal → step s = .refused .illegalWord) ∧
  (∀ (s : State) (lines : List Line), (∃ l ∈ lines, decode s.cfg.regBits l.2 = .error .illegal) →
    ∃ r, load s lines = .refused r)

/-- Section 3 of `30_encoding.md` and R171: a line attributed to an agent that does not issue its operation
is refused as `wrong_agent`. That the word's legality is judged first is the model's choice (assumption
log 6). -/
def Obligations.ForeignAgentIsRefused : Prop :=
  ∀ (s : State) (a : Agent) (w : OpWord) (i : Instr), s.takeLine.1 = (some a, w) →
    decode s.cfg.regBits w = .ok i → a ≠ i.issuer → step s = .refused .wrongAgent

/-- A step performs the operation that the schedule's next line decodes to, on the state with that line
taken: the first placed line or, where none is placed, the next line of the free schedule. How the model
keeps the schedule, a parameter by R14, is its own choice (assumption log 4). -/
def Obligations.StepRunsTheDecodedOperation : Prop :=
  (∀ (s : State) (a : Option Agent) (w : OpWord) (i : Instr), s.takeLine.1 = (a, w) →
    decode s.cfg.regBits w = .ok i → (a = none ∨ a = some i.issuer) → step s = exec i s.takeLine.2) ∧
  (∀ (s : State) (l : Line) (rest : List Line), s.pending = l :: rest →
    s.takeLine = (l, { s with pending := rest })) ∧
  (∀ s : State, s.pending = [] → s.takeLine = (Config.schedule s.slot, { s with slot := s.slot + 1 }))

/-! ## The foreground's operations -/

/-- R101. -/
def Obligations.IdleChangesNothing : Prop :=
  encode .idle = 0x0000#16 ∧ ∀ s : State,
    (s.hpc = 0#3 → exec .idle s = .next s) ∧
    (s.hpc ≠ 0#3 → exec .idle s = .refused .guardFalse)

/-- R102, with the corner case that a pending, installed event makes `IENTER` issuable at once. -/
def Obligations.SetgieWritesTheGlobalEnable : Prop :=
  encode (.setgie false) = 0x1000#16 ∧ encode (.setgie true) = 0x1001#16 ∧ ∀ (b : Bool) (s : State),
    (s.hpc = 0#3 → exec (.setgie b) s = .next { s with ctrl := { s.ctrl with gie := b } }) ∧
    (s.hpc ≠ 0#3 → exec (.setgie b) s = .refused .guardFalse) ∧
    (s.hpc = 0#3 → s.ctrl.gie = b → exec (.setgie b) s = .next s) ∧
    (s.hpc = 0#3 → s.ovf = true → s.ctrl.ovie = true →
      ∃ t u, exec (.setgie true) s = .next t ∧ exec .ienter t = .next u)

/-- R103, with its corner cases: with `MODE = 1` and a code other than 0 the timer runs, with `MODE = 0` it
does not and a driven pin is low. -/
def Obligations.SetmodeWritesTheMode : Prop :=
  encode (.setmode false) = 0x2000#16 ∧ encode (.setmode true) = 0x2001#16 ∧ ∀ (b : Bool) (s : State),
    (s.hpc = 0#3 → exec (.setmode b) s = .next { s with ctrl := { s.ctrl with mode := b } }) ∧
    (s.hpc ≠ 0#3 → exec (.setmode b) s = .refused .guardFalse) ∧
    (∀ t, exec (.setmode true) s = .next t → (t.timerRuns = true ↔ s.ctrl.ps ≠ 0#3)) ∧
    (∀ t, exec (.setmode false) s = .next t →
      t.timerRuns = false ∧ exec .clk t = .next t ∧ (t.ctrl.poe = true → t.pin = .low))

/-- R104, with its corner cases: the counter stays where it is until `PRESC(c)` clocks later, and the clock
that makes them full performs the first tick. -/
def Obligations.SetpsWritesTheCodeAndRestartsTheDivider : Prop :=
  (∀ c : BitVec 3, encode (.setps c) = 0x3000#16 + c.setWidth 16) ∧ ∀ (c : BitVec 3) (s : State),
    (s.hpc = 0#3 → exec (.setps c) s = .next { s with ctrl := { s.ctrl with ps := c }, div := 0#10 }) ∧
    (s.hpc ≠ 0#3 → exec (.setps c) s = .refused .guardFalse) ∧
    (∀ t, exec (.setps 0#3) s = .next t → t.timerRuns = false) ∧
    (∀ t, exec (.setps c) s = .next t → c ≠ 0#3 → s.ctrl.mode = true →
      (∀ k, k < presc c → runOps (List.replicate k .clk) t = .next { t with div := BitVec.ofNat 10 k }) ∧
      ∃ u, runOps (List.replicate (presc c) .clk) t = .next u ∧ exec .tick t = .next u)

/-- R105, with the pin it leaves. -/
def Obligations.PinoutDrivesThePin : Prop :=
  encode .pinout = 0x4000#16 ∧ ∀ s : State,
    (s.hpc = 0#3 → exec .pinout s = .next { s with ctrl := { s.ctrl with poe := true } }) ∧
    (s.hpc ≠ 0#3 → exec .pinout s = .refused .guardFalse) ∧
    (∀ t, exec .pinout s = .next t → t.pin ≠ .z ∧ (t.ctrl.mode = false → t.pin = .low)) ∧
    (∀ (i : Instr) (t : State), i ≠ .reset → s.ctrl.poe = true → exec i s = .next t → t.ctrl.poe = true)

/-- R106: the handler is installed, a pending event stays pending, and while `GIE = 0` no handler can
start; nothing but `RESET` removes it. -/
def Obligations.InstallEnablesTheOverflowEvent : Prop :=
  encode .install = 0x5000#16 ∧ ∀ s : State,
    (s.hpc = 0#3 → exec .install s = .next { s with ctrl := { s.ctrl with ovie := true } }) ∧
    (s.hpc ≠ 0#3 → exec .install s = .refused .guardFalse) ∧
    (∀ t, s.ctrl.gie = false → exec .install s = .next t → exec .ienter t = .refused .guardFalse) ∧
    (∀ (i : Instr) (t : State), i ≠ .reset → s.ctrl.ovie = true → exec i s = .next t → t.ctrl.ovie = true)

/-- R107: the buffer alone is written, with the operand as it stands. -/
def Obligations.WrcmpbWritesTheBufferAlone : Prop :=
  (∀ v : BitVec 12, encode (.wrcmpb v) = 0x6000#16 + v.setWidth 16) ∧ ∀ (v : BitVec 12) (s : State),
    (s.hpc = 0#3 → v.toNat ≤ s.cfg.regMax → exec (.wrcmpb v) s = .next { s with cmpb := v.toNat }) ∧
    (s.hpc ≠ 0#3 → exec (.wrcmpb v) s = .refused .guardFalse) ∧
    (s.cfg.regMax < v.toNat → decode s.cfg.regBits (encode (.wrcmpb v)) = .error .illegal)

/-- R100: while SEQ is in service no foreground operation has a step; outside service each has one, and it
writes none of `OVF`, `HPC`, `IDX`, `W0`, `CMPA`, `CNT`, no sample, and none of the bookkeeping. -/
def Obligations.ForegroundIsHeldInServiceOnly : Prop :=
  ∀ (i : Instr) (s : State), i.issuer = .fg →
    (s.hpc ≠ 0#3 → exec i s = .refused .guardFalse) ∧
    (s.hpc = 0#3 → ∃ t, exec i s = .next t ∧ t.ovf = s.ovf ∧ t.hpc = s.hpc ∧ t.idx = s.idx ∧ t.w0 = s.w0 ∧
      t.cmpa = s.cmpa ∧ t.cnt = s.cnt ∧ t.ghost = s.ghost ∧ ∀ a, t.table a = s.table a)

/-! ## Reset -/

/-- From every state, in service or not, every register is 0 afterwards and the pin is not driven (section 1 of
`70_reset_and_hazards.md`); on the state after power-on it changes nothing. That the bookkeeping stays as it was is
the model's choice (R39 leaves it to the model; assumption log 12). -/
def Obligations.ResetClearsEveryRegister : Prop :=
  encode .reset = 0x7000#16 ∧
  (∀ s : State, ∃ t, exec .reset s = .next t ∧
    t = { s with idx := 0, w0 := 0, cmpb := 0, cmpa := 0, cnt := 0, div := 0#10,
                 ctrl := { ps := 0#3, mode := false, poe := false, ovie := false, gie := false },
                 hpc := 0#3, ovf := false } ∧
    t.pin = .z) ∧
  (∀ (c : Config) (rom : Memory), exec .reset (State.powerOn c rom) = .next (State.powerOn c rom))

/-- R202, for `RESET` and for every step: no build-time parameter and no sample changes. -/
def Obligations.StepsKeepParametersAndTable : Prop :=
  ∀ s t : State, exec .reset s = .next t ∨ step s = .next t → t.cfg = s.cfg ∧ ∀ a, t.table a = s.table a

/-- R203: after reset any number of clocks changes nothing, the hardware's other operations have no step,
and the pin is not driven. -/
def Obligations.ResetStateIsQuiescent : Prop :=
  ∀ (c : Config) (rom : Memory),
    (∀ k, runOps (List.replicate k .clk) (State.powerOn c rom) = .next (State.powerOn c rom)) ∧
    (∀ i : Instr, (i.issuer = .tmr ∨ i.issuer = .seq) → i ≠ .clk →
      exec i (State.powerOn c rom) = .refused .guardFalse) ∧
    (State.powerOn c rom).pin = .z

/-! ## The timer and the pin -/

/-- R122: nothing while the timer does not run, a `TICK` with the divider cleared on the last clock of the
prescaler's count, and one more clock counted otherwise. -/
def Obligations.ClkPrescalesTheClock : Prop :=
  encode .clk = 0x8000#16 ∧ ∀ s : State,
    (s.ctrl.mode = false ∨ s.ctrl.ps = 0#3 → exec .clk s = .next s) ∧
    (s.ctrl.mode = true → s.ctrl.ps ≠ 0#3 → s.div.toNat + 1 = presc s.ctrl.ps →
      ∃ t, exec .clk s = .next t ∧ exec .tick { s with div := 0#10 } = .next t) ∧
    (s.ctrl.mode = true → s.ctrl.ps ≠ 0#3 → s.div.toNat + 1 ≠ presc s.ctrl.ps → s.div.toNat < 1023 →
      exec .clk s = .next { s with div := BitVec.ofNat 10 (s.div.toNat + 1) })

/-- R123, with the bookkeeping of R39: below `TOP` the counter counts; at `TOP` it returns to 0, the buffer
is latched and the overflow event is raised. -/
def Obligations.TickCountsAndWraps : Prop :=
  encode .tick = 0x9000#16 ∧ ∀ s : State,
    (s.ctrl.mode = false ∨ s.ctrl.ps = 0#3 → exec .tick s = .refused .guardFalse) ∧
    (s.ctrl.mode = true → s.ctrl.ps ≠ 0#3 → s.cnt < s.cfg.top →
      exec .tick s = .next { s with cnt := s.cnt + 1 }) ∧
    (s.ctrl.mode = true → s.ctrl.ps ≠ 0#3 → s.cnt = s.cfg.top →
      exec .tick s = .next { s with
        cnt := 0
        cmpa := s.cmpb
        ovf := true
        ghost := { s.ghost with
          atrace := s.ghost.atrace ++ [s.cmpb]
          nOvf := s.ghost.nOvf + 1
          nLost := s.ghost.nLost + if s.ovf then 1 else 0 } })

/-- R124's contract on one operation: `CMPA` takes the buffer at a wrap and changes at no other time
(`RESET` apart), and a write of the buffer does not change the pin. -/
def Obligations.BufferIsLatchedAtWrapsOnly : Prop :=
  ∀ (i : Instr) (s t : State), exec i s = .next t →
    (wrapsAt i s = true → t.cmpa = s.cmpb ∧ t.cnt = 0 ∧ t.ovf = true) ∧
    (wrapsAt i s = false → i ≠ .reset → t.cmpa = s.cmpa) ∧
    (i = .wrcmp ∨ (∃ v, i = .wrcmpb v) → t.pin = s.pin)

/-- R176: a wrap while an event is pending leaves it pending and loses the later event; a wrap while none
is pending loses none, in service or not. -/
def Obligations.PendingEventsCoalesce : Prop :=
  ∀ (i : Instr) (s t : State), wrapsAt i s = true → exec i s = .next t →
    t.ovf = true ∧ t.hpc = s.hpc ∧ t.ghost.nOvf = s.ghost.nOvf + 1 ∧
    (s.ovf = true → t.ghost.nLost = s.ghost.nLost + 1) ∧
    (s.ovf = false → t.ghost.nLost = s.ghost.nLost)

/-- The accounting of program P4 of `95_test_vectors.md` as an invariant: every event is served, lost or
pending (`RESET` drops a pending one). -/
def Obligations.EveryEventIsServedLostOrPending : Prop :=
  ∀ (ops : List Instr) (s t : State), Instr.reset ∉ ops → runOps ops s = .next t →
    s.ghost.nOvf = s.ghost.nIsr + s.ghost.nLost + (if s.ovf then 1 else 0) →
    t.ghost.nOvf = t.ghost.nIsr + t.ghost.nLost + (if t.ovf then 1 else 0)

/-- R127: from a cleared divider, `PRESC(PS)` clocks are one tick on every state element, and leave the
divider cleared. -/
def Obligations.ClockBurstIsOneTick : Prop :=
  ∀ s : State, s.timerRuns = true → s.div = 0#10 →
    ∃ t, runOps (List.replicate (presc s.ctrl.ps) .clk) s = .next t ∧ exec .tick s = .next t ∧ t.div = 0#10

/-- R125 for a whole period: `2^TIMER_BITS` ticks wrap the counter exactly once and bring it back to where
it was; the value applied is the one the buffer held. -/
def Obligations.FullPeriodWrapsOnce : Prop :=
  ∀ s : State, s.timerRuns = true → s.cnt ≤ s.cfg.top →
    runOps (List.replicate (2 ^ s.cfg.timerBits) .tick) s = .next { s with
      cmpa := s.cmpb
      ovf := true
      ghost := { s.ghost with
        atrace := s.ghost.atrace ++ [s.cmpb]
        nOvf := s.ghost.nOvf + 1
        nLost := s.ghost.nLost + if s.ovf then 1 else 0 } }

/-- R35. -/
def Obligations.PinFollowsTheComparison : Prop :=
  ∀ s : State,
    (s.ctrl.poe = false → s.pin = .z) ∧
    (s.ctrl.poe = true → s.ctrl.mode = false → s.pin = .low) ∧
    (s.ctrl.poe = true → s.ctrl.mode = true → s.cfg.pinRule = .lt →
      s.pin = if s.cnt < s.cmpa then .high else .low) ∧
    (s.ctrl.poe = true → s.ctrl.mode = true → s.cfg.pinRule = .le →
      s.pin = if s.cnt ≤ s.cmpa then .high else .low)

/-- R126: in a period with the active value `A` the pin is high for `A` ticks under `LT` and for `A + 1`
under `LE`, and under both it falls at most once: it is high at a count below every count it is high at. -/
def Obligations.DutyIsTheActiveValue : Prop :=
  ∀ s : State, s.ctrl.poe = true → s.ctrl.mode = true → s.cmpa ≤ s.cfg.regMax →
    (s.cfg.pinRule = .lt → s.highTicks = s.cmpa) ∧
    (s.cfg.pinRule = .le → s.highTicks = s.cmpa + 1) ∧
    (∀ j k, j ≤ k → State.pin { s with cnt := k } = .high → State.pin { s with cnt := j } = .high)

/-- R28: the codes and the factors. -/
def Obligations.PrescalerCodesAndFactors : Prop :=
  presc 1#3 = 1 ∧ presc 2#3 = 8 ∧ presc 3#3 = 32 ∧ presc 4#3 = 64 ∧ presc 5#3 = 128 ∧ presc 6#3 = 256 ∧
  presc 7#3 = 1024 ∧ (∀ (p : Nat) (c : BitVec 3), pscode p = some c ↔ c ≠ 0#3 ∧ presc c = p) ∧
  (∀ p : Nat, pscode p = none ↔ p ∉ prescalerFactors)

/-- The words of CR0 and CR1 (the layouts of `10_state.md` sections 5 and 7). That `CTRL` is stored by field
is the model's choice (assumption log 14). -/
def Obligations.ControlAndStatusWords : Prop :=
  ∀ s : State,
    s.ctrl.word.getLsbD 7 = s.ctrl.gie ∧ s.ctrl.word.getLsbD 6 = s.ctrl.ovie ∧
    s.ctrl.word.getLsbD 5 = s.ctrl.poe ∧ s.ctrl.word.getLsbD 4 = s.ctrl.mode ∧
    s.ctrl.word.getLsbD 3 = false ∧ s.ctrl.word.extractLsb' 0 3 = s.ctrl.ps ∧
    s.stat.getLsbD 0 = s.ovf ∧ s.stat.extractLsb' 1 7 = 0#7

/-! ## The sequencer -/

/-- R141 and the exact condition of R173: one invocation starts for one pending event; nothing is saved. -/
def Obligations.IenterTakesTheInterrupt : Prop :=
  encode .ienter = 0xA000#16 ∧ ∀ s : State,
    (s.hpc = 0#3 ∧ s.ovf = true ∧ s.ctrl.ovie = true ∧ s.ctrl.gie = true →
      exec .ienter s = .next { s with
        ovf := false
        ctrl := { s.ctrl with gie := false }
        hpc := 1#3
        ghost := { s.ghost with nIsr := s.ghost.nIsr + 1 } }) ∧
    (¬ (s.hpc = 0#3 ∧ s.ovf = true ∧ s.ctrl.ovie = true ∧ s.ctrl.gie = true) →
      exec .ienter s = .refused .guardFalse)

/-- R142, with its corner case: the index it reads is below `N`. -/
def Obligations.LdidxReadsTheIndex : Prop :=
  encode .ldidx = 0xB000#16 ∧ ∀ s : State,
    (s.hpc = 1#3 → exec .ldidx s = .next { s with w0 := s.idx, hpc := 2#3 }) ∧
    (s.hpc ≠ 1#3 → exec .ldidx s = .refused .guardFalse) ∧
    (∀ t, Inv s → exec .ldidx s = .next t → t.w0 < t.cfg.n)

/-- R143, with the bookkeeping of R39 and the verdict of R54: the sample at `W0`, a value of the table
(R57), goes to the buffer unchanged. -/
def Obligations.WrcmpWritesTheSample : Prop :=
  encode .wrcmp = 0xC000#16 ∧ ∀ s : State,
    (∀ v, s.hpc = 2#3 → s.table s.w0 = some v → v ≤ s.cfg.regMax →
      exec .wrcmp s = .next { s with
        cmpb := v
        hpc := 3#3
        ghost := { s.ghost with wtrace := s.ghost.wtrace ++ [v] } }) ∧
    (s.hpc = 2#3 → s.cfg.n ≤ s.w0 → exec .wrcmp s = .fault .tableIndexOutOfRange) ∧
    (s.hpc ≠ 2#3 → exec .wrcmp s = .refused .guardFalse)

/-- R144, with its corner case: from an index below `N` the storage width never takes effect. -/
def Obligations.IncidxIncrementsTheIndex : Prop :=
  encode .incidx = 0xD000#16 ∧ ∀ s : State,
    (s.hpc = 3#3 → exec .incidx s = .next { s with idx := (s.idx + 1) % 2 ^ s.cfg.idxw, hpc := 4#3 }) ∧
    (s.hpc ≠ 3#3 → exec .incidx s = .refused .guardFalse) ∧
    (∀ t, configOk s.cfg = true → s.idx < s.cfg.n → exec .incidx s = .next t → t.idx = s.idx + 1)

/-- R145, with its corner cases: the mask leaves `1 <= IDX < N` and takes `N` to 0. -/
def Obligations.MskidxMasksTheIndex : Prop :=
  encode .mskidx = 0xE000#16 ∧ ∀ s : State,
    (s.hpc = 4#3 → exec .mskidx s = .next { s with idx := s.idx &&& (s.cfg.n - 1), hpc := 5#3 }) ∧
    (s.hpc ≠ 4#3 → exec .mskidx s = .refused .guardFalse) ∧
    (∀ t, configOk s.cfg = true → exec .mskidx s = .next t →
      (s.idx < s.cfg.n → t.idx = s.idx) ∧ (s.idx = s.cfg.n → t.idx = 0))

/-- R146, with its corner case: an event that arrived during the handler starts the next invocation at
once. -/
def Obligations.IretReturnsFromTheInterrupt : Prop :=
  encode .iret = 0xF000#16 ∧ ∀ s : State,
    (s.hpc = 5#3 → exec .iret s = .next { s with ctrl := { s.ctrl with gie := true }, hpc := 0#3 }) ∧
    (s.hpc ≠ 5#3 → exec .iret s = .refused .guardFalse) ∧
    (s.hpc = 5#3 → s.ovf = true → s.ctrl.ovie = true →
      ∃ t u, exec .iret s = .next t ∧ exec .ienter t = .next u)

/-- R33's sequence: a SEQ operation moves `HPC` to its own successor in `0 -> 1 -> 2 -> 3 -> 4 -> 5 -> 0`;
FG and TMR operations leave it; at 6 and 7 no SEQ operation has a step. -/
def Obligations.HandlerStepsFollowOneAnother : Prop :=
  ∀ (i : Instr) (s t : State), exec i s = .next t →
    (i.issuer = .seq → s.hpc.toNat ≤ 5 ∧ t.hpc.toNat = (s.hpc.toNat + 1) % 6) ∧
    (i.issuer = .fg ∨ i.issuer = .tmr → t.hpc = s.hpc)

/-- The write cells of the access matrix (`10_state.md` section 9): each element is written by the
operations the matrix names and by no other; no operation touches the parameters, the table or the
schedule. -/
def Obligations.WritersOfEachElement : Prop :=
  ∀ (i : Instr) (s t : State), exec i s = .next t →
    (t.idx = s.idx ∨ i = .incidx ∨ i = .mskidx ∨ i = .reset) ∧
    (t.w0 = s.w0 ∨ i = .ldidx ∨ i = .reset) ∧
    (t.cmpb = s.cmpb ∨ i = .wrcmp ∨ (∃ v, i = .wrcmpb v) ∨ i = .reset) ∧
    (t.cmpa = s.cmpa ∨ i = .clk ∨ i = .tick ∨ i = .reset) ∧
    (t.cnt = s.cnt ∨ i = .clk ∨ i = .tick ∨ i = .reset) ∧
    (t.div = s.div ∨ i = .clk ∨ (∃ c, i = .setps c) ∨ i = .reset) ∧
    (t.ctrl.ps = s.ctrl.ps ∨ (∃ c, i = .setps c) ∨ i = .reset) ∧
    (t.ctrl.mode = s.ctrl.mode ∨ (∃ b, i = .setmode b) ∨ i = .reset) ∧
    (t.ctrl.poe = s.ctrl.poe ∨ i = .pinout ∨ i = .reset) ∧
    (t.ctrl.ovie = s.ctrl.ovie ∨ i = .install ∨ i = .reset) ∧
    (t.ctrl.gie = s.ctrl.gie ∨ (∃ b, i = .setgie b) ∨ i = .ienter ∨ i = .iret ∨ i = .reset) ∧
    (t.hpc = s.hpc ∨ i.issuer = .seq ∨ i = .reset) ∧
    (t.ovf = s.ovf ∨ i = .clk ∨ i = .tick ∨ i = .ienter ∨ i = .reset) ∧
    t.cfg = s.cfg ∧ t.pending = s.pending ∧ t.slot = s.slot ∧ ∀ a, t.table a = s.table a

/-- The meaning of a guard (R15) and of the verdict on a false one (K17 of `93_implementation_defined.md`):
an operation is refused as `guard_false` exactly where its rule's guard is false. -/
def Obligations.FalseGuardsAreRefused : Prop :=
  ∀ (i : Instr) (s : State), exec i s = .refused .guardFalse ↔ guardOf i s = false

/-- No state that keeps R37 faults or is refused an operation whose guard holds; in particular the table
read of R54 stays in range. -/
def Obligations.InvariantStatesRunEveryGuardedOperation : Prop :=
  ∀ (i : Instr) (s : State), Inv s → guardOf i s = true → ∃ t, exec i s = .next t

/-- R151 on the machine: for every storage width that holds an index, `INCIDX` and `MSKIDX` together take
`IDX` to `(IDX + 1) mod N`. -/
def Obligations.IndexAdvanceIndependentOfWidth : Prop :=
  ∀ s : State, s.hpc = 3#3 → s.cfg.n ∈ [256, 512, 1024] → s.cfg.idxBits ≤ s.cfg.idxw → s.idx < s.cfg.n →
    runOps [.incidx, .mskidx] s = .next { s with idx := (s.idx + 1) % s.cfg.n, hpc := 5#3 }

/-- R147: the net effect of one invocation with any timer operations between its steps; a `TICK` has a step
only while the timer runs. -/
def Obligations.ServiceNetEffect : Prop :=
  ∀ (s : State) (a b c d e : List Instr), Inv s → s.hpc = 0#3 → s.ovf = true → s.ctrl.ovie = true →
    s.ctrl.gie = true →
    (∀ i ∈ a ++ b ++ c ++ d ++ e, i = .clk ∨ (i = .tick ∧ s.timerRuns = true)) →
    ∃ t v, s.table s.idx = some v ∧
      runOps ([.ienter] ++ a ++ [.ldidx] ++ b ++ [.wrcmp] ++ c ++ [.incidx] ++ d ++ [.mskidx] ++ e ++ [.iret]) s
        = .next t ∧
      t.cmpb = v ∧ t.idx = (s.idx + 1) % s.cfg.n ∧ t.w0 = s.idx ∧ t.hpc = 0#3 ∧ t.ctrl = s.ctrl ∧
      t.ghost.wtrace = s.ghost.wtrace ++ [v] ∧ t.ghost.nIsr = s.ghost.nIsr + 1 ∧
      (t.ovf = true ↔ s.ghost.nOvf < t.ghost.nOvf)

/-- R148, from any starting index and for every run without a reset that ends out of service, whatever the
interleaving: `j` invocations write the samples at the `j` indices that follow one another modulo `N`, and
leave the index advanced by `j` modulo `N`. -/
def Obligations.InvocationsWriteTheTableCyclically : Prop :=
  ∀ (ops : List Instr) (s t : State), Inv s → s.hpc = 0#3 → Instr.reset ∉ ops →
    runOps ops s = .next t → t.hpc = 0#3 →
    ∃ j samples, t.ghost.nIsr = s.ghost.nIsr + j ∧ t.idx = (s.idx + j) % s.cfg.n ∧
      t.ghost.wtrace = s.ghost.wtrace ++ samples ∧ samples.length = j ∧
      ∀ k, k < j → samples[k]? = s.table ((s.idx + k) % s.cfg.n)

/-- R149: two runs from the same index and the same table, each without a reset and ending out of service
after the same number of invocations, write the same values, whatever the prescaler, the widths, the
counter and the interleaving are. -/
def Obligations.WrittenSequenceIsDeterministic : Prop :=
  ∀ (ops₁ ops₂ : List Instr) (s₁ s₂ t₁ t₂ : State) (w₁ w₂ : List Nat), Inv s₁ → Inv s₂ →
    s₁.hpc = 0#3 → s₂.hpc = 0#3 → s₁.cfg.n = s₂.cfg.n → s₁.idx = s₂.idx →
    (∀ i, s₁.table i = s₂.table i) → Instr.reset ∉ ops₁ → Instr.reset ∉ ops₂ →
    runOps ops₁ s₁ = .next t₁ → runOps ops₂ s₂ = .next t₂ → t₁.hpc = 0#3 → t₂.hpc = 0#3 →
    t₁.ghost.nIsr - s₁.ghost.nIsr = t₂.ghost.nIsr - s₂.ghost.nIsr →
    t₁.ghost.wtrace = s₁.ghost.wtrace ++ w₁ → t₂.ghost.wtrace = s₂.ghost.wtrace ++ w₂ →
    w₁ = w₂ ∧ t₁.idx = t₂.idx

/-- R150 and R212: under the deadline premise of R213, from a live block with SEQ idle and with the foreground
idling, the values applied period by period are the written values in order, after the buffer's first value where no
event is pending at the start; at most one written value is not yet applied. An event pending at the start is the one
that the wraps before `EI` leave (R209). What "while the block is live" means in service is the model's reading
(assumption log 20). -/
def Obligations.WrittenValuesReachThePinInOrder : Prop :=
  ∀ (ops : List Instr) (s t : State), Inv s → s.hpc = 0#3 → s.live = true →
    (∀ i ∈ ops, i = .idle ∨ i.issuer = .tmr ∨ i.issuer = .seq) → MeetsDeadline ops s →
    runOps ops s = .next t →
    ∃ written applied, t.ghost.wtrace = s.ghost.wtrace ++ written ∧
      t.ghost.atrace = s.ghost.atrace ++ applied ∧
      applied <+: (if s.ovf then written else s.cmpb :: written) ∧
      written.length ≤ applied.length + (if s.ovf then 1 else 0) ∧ t.cmpa = applied.getLastD s.cmpa ∧
      t.ghost.nLost = s.ghost.nLost

/-! ## Interrupt delivery and setup -/

/-- R174: while delivery is off and no operation turns it on, no SEQ operation occurs and no invocation
starts; the events of that interval set `OVF`, and one at most survives it. -/
def Obligations.CriticalSectionHoldsTheHandler : Prop :=
  ∀ (ops : List Instr) (s t : State), s.hpc = 0#3 → s.ctrl.gie = false → Instr.reset ∉ ops →
    Instr.setgie true ∉ ops → runOps ops s = .next t →
    (∀ i ∈ ops, i.issuer ≠ .seq) ∧
    t.hpc = 0#3 ∧ t.ctrl.gie = false ∧ t.idx = s.idx ∧ t.w0 = s.w0 ∧ t.ghost.nIsr = s.ghost.nIsr ∧
    t.ghost.wtrace = s.ghost.wtrace ∧ (t.ovf = true ↔ s.ovf = true ∨ s.ghost.nOvf < t.ghost.nOvf)

/-- R180: from a state in service, no run without a reset enters the handler again before its `IRET`. -/
def Obligations.InvocationsDoNotNest : Prop :=
  ∀ (ops : List Instr) (s t : State), Inv s → s.hpc ≠ 0#3 → Instr.reset ∉ ops → Instr.iret ∉ ops →
    runOps ops s = .next t →
    t.hpc ≠ 0#3 ∧ t.ctrl.gie = false ∧ t.ghost.nIsr = s.ghost.nIsr ∧ exec .ienter t = .refused .guardFalse

/-- R206 and R207: the canonical setup program with its words, followed by any number of `IDLE`, is well formed for
the prescaler it names and completes the setup; and it is the contract that decides. Since the last reset, setup has
completed exactly if the foreground's program is a well-formed one; the verdict is `ill_formed_setup` exactly if the
program neither is the beginning of a well-formed one nor has completed one (that an unfinished setup is admitted is
the model's reading, assumption log 8); a `RESET` starts it again; and a schedule is loaded or refused by that verdict
before any run. -/
def Obligations.CanonicalSetupIsWellFormed : Prop :=
  (∀ (c : Config) (p k : Nat) (code : BitVec 3), pscode p = some code →
    ∃ ops, expandPseudo c (.setup p) = some ops ∧
      ops.map encode = [0x1000#16, 0x2001#16, 0x3000#16 + code.setWidth 16, 0x4000#16, 0x5000#16, 0x1001#16] ∧
      WellFormedSetup p (ops ++ List.replicate k .idle) ∧
      ∃ q, checkOps p SetupProgress.start (ops ++ List.replicate k .idle) = .ok q ∧ q.complete = true) ∧
  (∀ (p : Nat) (ops : List Instr), p ∈ prescalerFactors → Instr.reset ∉ ops →
    ((∃ q, checkOps p SetupProgress.start ops = .ok q ∧ q.complete = true) ↔ WellFormedSetup p (fgProgram ops)) ∧
    (checkOps p SetupProgress.start ops = .error .illFormedSetup ↔
      (∀ rest, ¬ WellFormedSetup p (fgProgram ops ++ rest)) ∧
      ∀ front, front <+: fgProgram ops → ¬ WellFormedSetup p front)) ∧
  (∀ (p : Nat) (before after : List Instr) (q : SetupProgress),
    checkOps p SetupProgress.start before = .ok q →
    checkOps p SetupProgress.start (before ++ .reset :: after) = checkOps p SetupProgress.start after) ∧
  (∀ (s : State) (lines : List Line) (ops : List Instr), readLines s.cfg.regBits lines = .ok ops →
    (∀ q, checkOps s.cfg.prescaler SetupProgress.start ops = .ok q →
      load s lines = .next { s with pending := lines }) ∧
    (checkOps s.cfg.prescaler SetupProgress.start ops = .error .illFormedSetup →
      load s lines = .refused .illFormedSetup))

/-- R208: whenever a foreground program that keeps R207 has completed its setup after power-on, with any
clocks in between, every operation of it has run and the block is live. -/
def Obligations.CompletedSetupIsLive : Prop :=
  ∀ (c : Config) (rom : Memory) (ops : List Instr) (q : SetupProgress),
    (∀ i ∈ ops, i.issuer = .fg ∨ i = .clk) → checkOps c.prescaler SetupProgress.start ops = .ok q →
    q.complete = true →
    ∃ t, runOps ops (State.powerOn c rom) = .next t ∧ t.live = true ∧ pscode c.prescaler = some t.ctrl.ps ∧
      t.ctrl.poe = true ∧ t.hpc = 0#3 ∧ t.idx = 0

/-- R215: a schedule that completes its setup and then has a foreground operation other than `IDLE` is refused when it
is loaded, whatever operations follow, although the operation, outside service, would be performed. That the contract
is judged at the load and not by the step is the model's choice (assumption log 7). -/
def Obligations.ForegroundWritesAfterSetupAreRefused : Prop :=
  (∀ (p : Nat) (ops rest : List Instr) (q : SetupProgress) (i : Instr),
    checkOps p SetupProgress.start ops = .ok q → q.complete = true → i.issuer = .fg → i ≠ .idle →
    checkOps p SetupProgress.start (ops ++ i :: rest) = .error .foregroundWriteAfterSetup) ∧
  (∀ (s : State) (lines : List Line) (ops rest : List Instr) (q : SetupProgress) (i : Instr),
    readLines s.cfg.regBits lines = .ok (ops ++ i :: rest) →
    checkOps s.cfg.prescaler SetupProgress.start ops = .ok q → q.complete = true → i.issuer = .fg → i ≠ .idle →
    load s lines = .refused .foregroundWriteAfterSetup) ∧
  (∀ (i : Instr) (s : State), i.issuer = .fg → s.hpc = 0#3 → ∃ t, exec i s = .next t)

/-- R8 and the parameter row of R171: a machine is built exactly of parameters in their sets; with the
default table at `REG_BITS = 8`, or with a table of `N` samples in range. That `IDXW` belongs to the
parameters checked is the model's reading (assumption log 13); that a table must be given at every other width, for
which section 3 of `20_memory.md` prints no default contents (N21 of `91_not_in_source.md`), is its choice
(assumption log 9). The machine built is the one of these parameters and this table after power-on (R201): every
register is 0, and the table reads as the samples given or, where none are, as the default contents. The state after
reset is such a machine, of the parameters that the model chose (assumption log 2). -/
def Obligations.OnlySupportedConfigurationsAreBuilt : Prop :=
  ∀ (c : Config) (t : Option (List Nat)),
    ((∃ s, build c t = .next s) ↔
      (c.n = 256 ∨ c.n = 512 ∨ c.n = 1024) ∧
      (c.prescaler = 1 ∨ c.prescaler = 8 ∨ c.prescaler = 32 ∨ c.prescaler = 64 ∨ c.prescaler = 128 ∨
        c.prescaler = 256 ∨ c.prescaler = 1024) ∧
      1 ≤ c.timerBits ∧ c.timerBits ≤ 12 ∧ c.idxBits + 1 ≤ c.idxw ∧
      match t with
      | none => c.timerBits = 8
      | some l => l.length = c.n ∧ ∀ v ∈ l, v ≤ c.regMax) ∧
    ((¬ ∃ s, build c t = .next s) → build c t = .refused .badConfiguration) ∧
    (∀ s, build c t = .next s →
      (∃ rom, s = State.powerOn c rom) ∧
      s.cfg = c ∧ s.idx = 0 ∧ s.w0 = 0 ∧ s.cmpb = 0 ∧ s.cmpa = 0 ∧ s.cnt = 0 ∧ s.div = 0#10 ∧
      s.ctrl = { ps := 0#3, mode := false, poe := false, ovie := false, gie := false } ∧ s.hpc = 0#3 ∧ s.ovf = false ∧
      (∀ l, t = some l → ∀ i, s.table i = l[i]?) ∧
      (t = none → ∀ i, s.table i = if i < c.n then defaultSample c.n i else none)) ∧
    build Config.initial none = .next State.reset

/-! ## The table -/

/-- R53 on a programmed table and on the default contents of R63: every index reads the sample given for it, or the
default one where no table is given, and no other index reads anything. `State.table` is what `WRCMP` reads
(`WrcmpWritesTheSample`). That only width 8 has default contents in the model is its choice (assumption log 9). -/
def Obligations.ProgrammedTableReadsBack : Prop :=
  (∀ (c : Config) (l : List Nat) (rom : Memory), romOf c (some l) = some rom → ∀ i, Memory.read c rom i = l[i]?) ∧
  (∀ (c : Config) (rom : Memory), romOf c none = some rom →
    (0 < c.n → c.regBits = 8) ∧ (∀ i, i < c.n → ∃ v, defaultSample c.n i = some v ∧ Memory.read c rom i = some v) ∧
    ∀ i, c.n ≤ i → Memory.read c rom i = none) ∧
  ∀ (c : Config) (s : State), build c none = .next s →
    (∀ i, i < c.n → ∃ v, defaultSample c.n i = some v ∧ s.table i = some v) ∧ ∀ i, c.n ≤ i → s.table i = none

/-- Programming one sample changes that index's read and no other's. The ROM as a list of cells is the
model's choice (assumption log 9). -/
def Obligations.TableWritesAreLocal : Prop :=
  ∀ (c : Config) (m : Memory) (i v : Nat), Memory.wf c m = true → i < c.n →
    Memory.read c (Memory.write c m i v) i = some v ∧
    ∀ j, j ≠ i → Memory.read c (Memory.write c m i v) j = Memory.read c m j

/-- Two ROMs in canonical form that read alike everywhere are the same data. The form is the model's choice
(assumption log 9). -/
def Obligations.RomFormIsCanonical : Prop :=
  ∀ (c : Config) (m₁ m₂ : Memory), Memory.wf c m₁ = true → Memory.wf c m₂ = true →
    (∀ i, Memory.read c m₁ i = Memory.read c m₂ i) → m₁ = m₂

/-- The checks printed beside the default tables (`20_memory.md` section 3): length, sum, minimum and maximum with
their first indices, the quarter points, the step across the wrap against the largest step inside, and the half-wave symmetry. -/
def Obligations.DefaultTablesMeetTheirChecks : Prop :=
  ∀ p ∈ ([(256, 32641, 124, 4, 189, 61), (512, 65281, 126, 2, 377, 121), (1024, 130561, 127, 1, 754, 242)]
      : List (Nat × Nat × Nat × Nat × Nat × Nat)),
    (defaultTable p.1).length = p.1 ∧ (defaultTable p.1).sum = p.2.1 ∧ (∀ v ∈ defaultTable p.1, v ≤ 255) ∧
    (∀ i, i < p.1 → defaultSample p.1 i = (defaultTable p.1)[i]?) ∧
    defaultSample p.1 0 = some 128 ∧ defaultSample p.1 (p.1 / 4) = some 255 ∧
    defaultSample p.1 (p.1 / 2) = some 128 ∧ defaultSample p.1 (3 * p.1 / 4) = some 0 ∧
    defaultSample p.1 (p.1 - 1) = some p.2.2.1 ∧ 128 - p.2.2.1 = p.2.2.2.1 ∧
    largestStep (defaultTable p.1) = p.2.2.2.1 ∧
    defaultSample p.1 p.2.2.2.2.1 = some 0 ∧ (∀ i, i < p.2.2.2.2.1 → defaultSample p.1 i ≠ some 0) ∧
    defaultSample p.1 p.2.2.2.2.2 = some 255 ∧ (∀ i, i < p.2.2.2.2.2 → defaultSample p.1 i ≠ some 255) ∧
    ∀ i, i < p.1 / 2 → 0 < i →
      (defaultTable p.1).getD i 0 + (defaultTable p.1).getD (i + p.1 / 2) 0 = 255

/-- R60 with R63: every sample of the three default tables is the generation formula's, with the real sine,
full amplitude and ties rounded up. -/
def Obligations.DefaultTablesFollowTheFormula : Prop :=
  ∀ n ∈ [256, 512, 1024], ∀ i, i < n → ∃ v, defaultSample n i = some v ∧ GeneratedSample 255 n i v

/-! ## The invariant -/

/-- The invariants of R37 hold at reset. The parameters of the state after reset are the model's choice
(assumption log 2), and so is the ROM's form among the invariants (log 9). -/
def Obligations.InvariantHoldsAtReset : Prop := Inv State.reset

/-- They hold in every machine that can be built, right after power-on. -/
def Obligations.InvariantHoldsInEveryBuiltMachine : Prop :=
  ∀ (c : Config) (t : Option (List Nat)) (s : State), build c t = .next s → Inv s

/-- R37: every step keeps them, from every state that has them. -/
def Obligations.EveryStepKeepsTheInvariant : Prop :=
  ∀ s t : State, Inv s → step s = .next t → Inv t

/-- R39: the bookkeeping touches no guard and no result. Keeping it in the state is the model's choice
(assumption log 12). -/
def Obligations.BookkeepingIsNotObserved : Prop :=
  ∀ (i : Instr) (s : State) (g : Ghost),
    (∀ t, exec i s = .next t → ∃ g', exec i { s with ghost := g } = .next { t with ghost := g' }) ∧
    (∀ r, exec i s = .fault r → exec i { s with ghost := g } = .fault r) ∧
    (∀ r, exec i s = .refused r → exec i { s with ghost := g } = .refused r)

/-! ## Text and timing -/

/-- R89: the pseudo-instructions' words, `PERIOD` and `CPERIOD` at every `TIMER_BITS`; an unsupported factor
has none. -/
def Obligations.PseudoInstructionsExpand : Prop :=
  ∀ c : Config,
    (expandPseudo c .di).map (List.map encode) = some [0x1000#16] ∧
    (expandPseudo c .ei).map (List.map encode) = some [0x1001#16] ∧
    (expandPseudo c .onOverflow).map (List.map encode) = some [0x5000#16] ∧
    (expandPseudo c .service).map (List.map encode) =
      some [0xA000#16, 0xB000#16, 0xC000#16, 0xD000#16, 0xE000#16, 0xF000#16] ∧
    (expandPseudo c .period).map (List.map encode) = some (List.replicate (2 ^ c.timerBits) 0x9000#16) ∧
    (expandPseudo c .cperiod).map (List.map encode) = some (List.replicate (c.prescaler * 2 ^ c.timerBits) 0x8000#16) ∧
    (∀ (p : Nat) (m : Bool) (code : BitVec 3), pscode p = some code →
      (expandPseudo c (.configure p m)).map (List.map encode) =
        some [if m then 0x2001#16 else 0x2000#16, 0x3000#16 + code.setWidth 16] ∧
      (expandPseudo c (.setup p)).map (List.map encode) =
        some [0x1000#16, 0x2001#16, 0x3000#16 + code.setWidth 16, 0x4000#16, 0x5000#16, 0x1001#16]) ∧
    (∀ (p : Nat) (m : Bool), p ∉ prescalerFactors →
      expandPseudo c (.configure p m) = none ∧ expandPseudo c (.setup p) = none)

/-- R221 to R223: the period law and the frequency law, their product, SW's three cases at 16 MHz, the wave period as
`N` PWM periods, and the rows of one PWM period in clocks and in microseconds at 16 MHz. -/
def Obligations.PeriodAndFrequencyLaws : Prop :=
  (∀ (c : Config) (t : Timing), periodSeconds c t = (wavePeriodClocks c : ℚ) / t.fClk) ∧
  (∀ (c : Config) (t : Timing), configOk c = true → timingOk t = true → periodSeconds c t * frequencyHz c t = 1) ∧
  (∀ p ∈ ([(1, 256, 15625 / 64), (8, 512, 15625 / 1024), (1024, 1024, 15625 / 262144)] : List (Nat × Nat × ℚ)),
    frequencyHz { Config.initial with prescaler := p.1, n := p.2.1 } ⟨16000000, 1⟩ = p.2.2) ∧
  (∀ (c : Config) (t : Timing), pwmPeriodSeconds c t = (c.prescaler * 2 ^ c.timerBits : ℚ) / t.fClk ∧
    periodSeconds c t = c.n * pwmPeriodSeconds c t) ∧
  (∀ p ∈ ([(1, 256, 16), (8, 2048, 128), (32, 8192, 512), (64, 16384, 1024), (128, 32768, 2048), (256, 65536, 4096),
      (1024, 262144, 16384)] : List (Nat × Nat × ℚ)), ∀ c : Config, c.prescaler = p.1 → c.timerBits = 8 →
    pwmPeriodClocks c = p.2.1 ∧ pwmPeriodMicroseconds c ⟨16000000, 1⟩ = p.2.2)
end

