-- ==== Sys2Proof/Laws/Build.lean ====
section
/-! SUPPORT. What building a machine can answer. -/

namespace Sys2Proof.Machine

/-- Building answers exactly the machine of a supported configuration and its ROM after power-on. -/
theorem build_eq_next {c : Config} {t : Option (List Nat)} {s : State} :
    build c t = .next s ↔ configOk c = true ∧ ∃ rom, romOf c t = some rom ∧ State.powerOn c rom = s := by
  unfold build
  cases configOk c <;> cases romOf c t <;> simp

/-- Without a table the ROM lists nothing, so that every index reads as an unlisted one. -/
theorem romOf_none_eq_some {c : Config} {rom : Memory} :
    romOf c none = some rom ↔ Memory.tableOk c [] = true ∧ [] = rom := by
  simp [romOf]

/-- A table is programmed as it is given. -/
theorem romOf_some_eq_some {c : Config} {l : List Nat} {rom : Memory} :
    romOf c (some l) = some rom ↔
      (l.length = c.n ∧ ∀ v ∈ l, v ≤ c.regMax) ∧ Memory.program c l = rom := by
  simp [romOf]

end Sys2Proof.Machine
end

