-- ==== Sys2Proof/Laws/State.lean ====
section
/-! SUPPORT. What each named update of the state does to each field, so that no proof unfolds a record
update. -/

namespace Sys2Proof.Machine

@[simp] theorem State.setIdx_cfg (s : State) (v : Nat) : (s.setIdx v).cfg = s.cfg := rfl
@[simp] theorem State.setIdx_rom (s : State) (v : Nat) : (s.setIdx v).rom = s.rom := rfl
@[simp] theorem State.setIdx_idx (s : State) (v : Nat) : (s.setIdx v).idx = trunc s.cfg.idxw v := rfl
@[simp] theorem State.setIdx_w0 (s : State) (v : Nat) : (s.setIdx v).w0 = s.w0 := rfl
@[simp] theorem State.setIdx_cmpb (s : State) (v : Nat) : (s.setIdx v).cmpb = s.cmpb := rfl
@[simp] theorem State.setIdx_cmpa (s : State) (v : Nat) : (s.setIdx v).cmpa = s.cmpa := rfl
@[simp] theorem State.setIdx_cnt (s : State) (v : Nat) : (s.setIdx v).cnt = s.cnt := rfl
@[simp] theorem State.setIdx_div (s : State) (v : Nat) : (s.setIdx v).div = s.div := rfl
@[simp] theorem State.setIdx_ctrl (s : State) (v : Nat) : (s.setIdx v).ctrl = s.ctrl := rfl
@[simp] theorem State.setIdx_hpc (s : State) (v : Nat) : (s.setIdx v).hpc = s.hpc := rfl
@[simp] theorem State.setIdx_ovf (s : State) (v : Nat) : (s.setIdx v).ovf = s.ovf := rfl
@[simp] theorem State.setIdx_ghost (s : State) (v : Nat) : (s.setIdx v).ghost = s.ghost := rfl
@[simp] theorem State.setIdx_pending (s : State) (v : Nat) : (s.setIdx v).pending = s.pending := rfl
@[simp] theorem State.setIdx_slot (s : State) (v : Nat) : (s.setIdx v).slot = s.slot := rfl

@[simp] theorem State.setCmpb_cfg (s : State) (v : Nat) : (s.setCmpb v).cfg = s.cfg := rfl
@[simp] theorem State.setCmpb_rom (s : State) (v : Nat) : (s.setCmpb v).rom = s.rom := rfl
@[simp] theorem State.setCmpb_idx (s : State) (v : Nat) : (s.setCmpb v).idx = s.idx := rfl
@[simp] theorem State.setCmpb_w0 (s : State) (v : Nat) : (s.setCmpb v).w0 = s.w0 := rfl
@[simp] theorem State.setCmpb_cmpb (s : State) (v : Nat) : (s.setCmpb v).cmpb = trunc s.cfg.regBits v := rfl
@[simp] theorem State.setCmpb_cmpa (s : State) (v : Nat) : (s.setCmpb v).cmpa = s.cmpa := rfl
@[simp] theorem State.setCmpb_cnt (s : State) (v : Nat) : (s.setCmpb v).cnt = s.cnt := rfl
@[simp] theorem State.setCmpb_div (s : State) (v : Nat) : (s.setCmpb v).div = s.div := rfl
@[simp] theorem State.setCmpb_ctrl (s : State) (v : Nat) : (s.setCmpb v).ctrl = s.ctrl := rfl
@[simp] theorem State.setCmpb_hpc (s : State) (v : Nat) : (s.setCmpb v).hpc = s.hpc := rfl
@[simp] theorem State.setCmpb_ovf (s : State) (v : Nat) : (s.setCmpb v).ovf = s.ovf := rfl
@[simp] theorem State.setCmpb_ghost (s : State) (v : Nat) : (s.setCmpb v).ghost = s.ghost := rfl
@[simp] theorem State.setCmpb_pending (s : State) (v : Nat) : (s.setCmpb v).pending = s.pending := rfl
@[simp] theorem State.setCmpb_slot (s : State) (v : Nat) : (s.setCmpb v).slot = s.slot := rfl

@[simp] theorem State.setCnt_cfg (s : State) (v : Nat) : (s.setCnt v).cfg = s.cfg := rfl
@[simp] theorem State.setCnt_rom (s : State) (v : Nat) : (s.setCnt v).rom = s.rom := rfl
@[simp] theorem State.setCnt_idx (s : State) (v : Nat) : (s.setCnt v).idx = s.idx := rfl
@[simp] theorem State.setCnt_w0 (s : State) (v : Nat) : (s.setCnt v).w0 = s.w0 := rfl
@[simp] theorem State.setCnt_cmpb (s : State) (v : Nat) : (s.setCnt v).cmpb = s.cmpb := rfl
@[simp] theorem State.setCnt_cmpa (s : State) (v : Nat) : (s.setCnt v).cmpa = s.cmpa := rfl
@[simp] theorem State.setCnt_cnt (s : State) (v : Nat) : (s.setCnt v).cnt = trunc s.cfg.timerBits v := rfl
@[simp] theorem State.setCnt_div (s : State) (v : Nat) : (s.setCnt v).div = s.div := rfl
@[simp] theorem State.setCnt_ctrl (s : State) (v : Nat) : (s.setCnt v).ctrl = s.ctrl := rfl
@[simp] theorem State.setCnt_hpc (s : State) (v : Nat) : (s.setCnt v).hpc = s.hpc := rfl
@[simp] theorem State.setCnt_ovf (s : State) (v : Nat) : (s.setCnt v).ovf = s.ovf := rfl
@[simp] theorem State.setCnt_ghost (s : State) (v : Nat) : (s.setCnt v).ghost = s.ghost := rfl
@[simp] theorem State.setCnt_pending (s : State) (v : Nat) : (s.setCnt v).pending = s.pending := rfl
@[simp] theorem State.setCnt_slot (s : State) (v : Nat) : (s.setCnt v).slot = s.slot := rfl

@[simp] theorem State.recordWrap_cfg (s : State) : (s.recordWrap).cfg = s.cfg := rfl
@[simp] theorem State.recordWrap_rom (s : State) : (s.recordWrap).rom = s.rom := rfl
@[simp] theorem State.recordWrap_idx (s : State) : (s.recordWrap).idx = s.idx := rfl
@[simp] theorem State.recordWrap_w0 (s : State) : (s.recordWrap).w0 = s.w0 := rfl
@[simp] theorem State.recordWrap_cmpb (s : State) : (s.recordWrap).cmpb = s.cmpb := rfl
@[simp] theorem State.recordWrap_cmpa (s : State) : (s.recordWrap).cmpa = s.cmpa := rfl
@[simp] theorem State.recordWrap_cnt (s : State) : (s.recordWrap).cnt = s.cnt := rfl
@[simp] theorem State.recordWrap_div (s : State) : (s.recordWrap).div = s.div := rfl
@[simp] theorem State.recordWrap_ctrl (s : State) : (s.recordWrap).ctrl = s.ctrl := rfl
@[simp] theorem State.recordWrap_hpc (s : State) : (s.recordWrap).hpc = s.hpc := rfl
@[simp] theorem State.recordWrap_ovf (s : State) : (s.recordWrap).ovf = s.ovf := rfl
@[simp] theorem State.recordWrap_ghost (s : State) : (s.recordWrap).ghost = { s.ghost with atrace := s.ghost.atrace ++ [s.cmpb], nOvf := s.ghost.nOvf + 1, nLost := s.ghost.nLost + s.lostByWrap } := rfl
@[simp] theorem State.recordWrap_pending (s : State) : (s.recordWrap).pending = s.pending := rfl
@[simp] theorem State.recordWrap_slot (s : State) : (s.recordWrap).slot = s.slot := rfl

@[simp] theorem State.wrap_cfg (s : State) : (s.wrap).cfg = s.cfg := rfl
@[simp] theorem State.wrap_rom (s : State) : (s.wrap).rom = s.rom := rfl
@[simp] theorem State.wrap_idx (s : State) : (s.wrap).idx = s.idx := rfl
@[simp] theorem State.wrap_w0 (s : State) : (s.wrap).w0 = s.w0 := rfl
@[simp] theorem State.wrap_cmpb (s : State) : (s.wrap).cmpb = s.cmpb := rfl
@[simp] theorem State.wrap_cmpa (s : State) : (s.wrap).cmpa = s.cmpb := rfl
@[simp] theorem State.wrap_cnt (s : State) : (s.wrap).cnt = 0 := rfl
@[simp] theorem State.wrap_div (s : State) : (s.wrap).div = s.div := rfl
@[simp] theorem State.wrap_ctrl (s : State) : (s.wrap).ctrl = s.ctrl := rfl
@[simp] theorem State.wrap_hpc (s : State) : (s.wrap).hpc = s.hpc := rfl
@[simp] theorem State.wrap_ovf (s : State) : (s.wrap).ovf = true := rfl
@[simp] theorem State.wrap_ghost (s : State) : (s.wrap).ghost = s.recordWrap.ghost := rfl
@[simp] theorem State.wrap_pending (s : State) : (s.wrap).pending = s.pending := rfl
@[simp] theorem State.wrap_slot (s : State) : (s.wrap).slot = s.slot := rfl

@[simp] theorem State.enterInterrupt_cfg (s : State) : (s.enterInterrupt).cfg = s.cfg := rfl
@[simp] theorem State.enterInterrupt_rom (s : State) : (s.enterInterrupt).rom = s.rom := rfl
@[simp] theorem State.enterInterrupt_idx (s : State) : (s.enterInterrupt).idx = s.idx := rfl
@[simp] theorem State.enterInterrupt_w0 (s : State) : (s.enterInterrupt).w0 = s.w0 := rfl
@[simp] theorem State.enterInterrupt_cmpb (s : State) : (s.enterInterrupt).cmpb = s.cmpb := rfl
@[simp] theorem State.enterInterrupt_cmpa (s : State) : (s.enterInterrupt).cmpa = s.cmpa := rfl
@[simp] theorem State.enterInterrupt_cnt (s : State) : (s.enterInterrupt).cnt = s.cnt := rfl
@[simp] theorem State.enterInterrupt_div (s : State) : (s.enterInterrupt).div = s.div := rfl
@[simp] theorem State.enterInterrupt_ctrl (s : State) : (s.enterInterrupt).ctrl = { s.ctrl with gie := false } := rfl
@[simp] theorem State.enterInterrupt_hpc (s : State) : (s.enterInterrupt).hpc = 1#3 := rfl
@[simp] theorem State.enterInterrupt_ovf (s : State) : (s.enterInterrupt).ovf = false := rfl
@[simp] theorem State.enterInterrupt_ghost (s : State) : (s.enterInterrupt).ghost = { s.ghost with nIsr := s.ghost.nIsr + 1 } := rfl
@[simp] theorem State.enterInterrupt_pending (s : State) : (s.enterInterrupt).pending = s.pending := rfl
@[simp] theorem State.enterInterrupt_slot (s : State) : (s.enterInterrupt).slot = s.slot := rfl

@[simp] theorem State.returnFromInterrupt_cfg (s : State) : (s.returnFromInterrupt).cfg = s.cfg := rfl
@[simp] theorem State.returnFromInterrupt_rom (s : State) : (s.returnFromInterrupt).rom = s.rom := rfl
@[simp] theorem State.returnFromInterrupt_idx (s : State) : (s.returnFromInterrupt).idx = s.idx := rfl
@[simp] theorem State.returnFromInterrupt_w0 (s : State) : (s.returnFromInterrupt).w0 = s.w0 := rfl
@[simp] theorem State.returnFromInterrupt_cmpb (s : State) : (s.returnFromInterrupt).cmpb = s.cmpb := rfl
@[simp] theorem State.returnFromInterrupt_cmpa (s : State) : (s.returnFromInterrupt).cmpa = s.cmpa := rfl
@[simp] theorem State.returnFromInterrupt_cnt (s : State) : (s.returnFromInterrupt).cnt = s.cnt := rfl
@[simp] theorem State.returnFromInterrupt_div (s : State) : (s.returnFromInterrupt).div = s.div := rfl
@[simp] theorem State.returnFromInterrupt_ctrl (s : State) : (s.returnFromInterrupt).ctrl = { s.ctrl with gie := true } := rfl
@[simp] theorem State.returnFromInterrupt_hpc (s : State) : (s.returnFromInterrupt).hpc = 0#3 := rfl
@[simp] theorem State.returnFromInterrupt_ovf (s : State) : (s.returnFromInterrupt).ovf = s.ovf := rfl
@[simp] theorem State.returnFromInterrupt_ghost (s : State) : (s.returnFromInterrupt).ghost = s.ghost := rfl
@[simp] theorem State.returnFromInterrupt_pending (s : State) : (s.returnFromInterrupt).pending = s.pending := rfl
@[simp] theorem State.returnFromInterrupt_slot (s : State) : (s.returnFromInterrupt).slot = s.slot := rfl

@[simp] theorem State.writeSample_cfg (s : State) (v : Nat) : (s.writeSample v).cfg = s.cfg := rfl
@[simp] theorem State.writeSample_rom (s : State) (v : Nat) : (s.writeSample v).rom = s.rom := rfl
@[simp] theorem State.writeSample_idx (s : State) (v : Nat) : (s.writeSample v).idx = s.idx := rfl
@[simp] theorem State.writeSample_w0 (s : State) (v : Nat) : (s.writeSample v).w0 = s.w0 := rfl
@[simp] theorem State.writeSample_cmpb (s : State) (v : Nat) : (s.writeSample v).cmpb = trunc s.cfg.regBits v := rfl
@[simp] theorem State.writeSample_cmpa (s : State) (v : Nat) : (s.writeSample v).cmpa = s.cmpa := rfl
@[simp] theorem State.writeSample_cnt (s : State) (v : Nat) : (s.writeSample v).cnt = s.cnt := rfl
@[simp] theorem State.writeSample_div (s : State) (v : Nat) : (s.writeSample v).div = s.div := rfl
@[simp] theorem State.writeSample_ctrl (s : State) (v : Nat) : (s.writeSample v).ctrl = s.ctrl := rfl
@[simp] theorem State.writeSample_hpc (s : State) (v : Nat) : (s.writeSample v).hpc = 3#3 := rfl
@[simp] theorem State.writeSample_ovf (s : State) (v : Nat) : (s.writeSample v).ovf = s.ovf := rfl
@[simp] theorem State.writeSample_ghost (s : State) (v : Nat) : (s.writeSample v).ghost = { s.ghost with wtrace := s.ghost.wtrace ++ [trunc s.cfg.regBits v] } := rfl
@[simp] theorem State.writeSample_pending (s : State) (v : Nat) : (s.writeSample v).pending = s.pending := rfl
@[simp] theorem State.writeSample_slot (s : State) (v : Nat) : (s.writeSample v).slot = s.slot := rfl

@[simp] theorem State.clearRegisters_cfg (s : State) : (s.clearRegisters).cfg = s.cfg := rfl
@[simp] theorem State.clearRegisters_rom (s : State) : (s.clearRegisters).rom = s.rom := rfl
@[simp] theorem State.clearRegisters_idx (s : State) : (s.clearRegisters).idx = 0 := rfl
@[simp] theorem State.clearRegisters_w0 (s : State) : (s.clearRegisters).w0 = 0 := rfl
@[simp] theorem State.clearRegisters_cmpb (s : State) : (s.clearRegisters).cmpb = 0 := rfl
@[simp] theorem State.clearRegisters_cmpa (s : State) : (s.clearRegisters).cmpa = 0 := rfl
@[simp] theorem State.clearRegisters_cnt (s : State) : (s.clearRegisters).cnt = 0 := rfl
@[simp] theorem State.clearRegisters_div (s : State) : (s.clearRegisters).div = 0#10 := rfl
@[simp] theorem State.clearRegisters_ctrl (s : State) : (s.clearRegisters).ctrl = Ctrl.zero := rfl
@[simp] theorem State.clearRegisters_hpc (s : State) : (s.clearRegisters).hpc = 0#3 := rfl
@[simp] theorem State.clearRegisters_ovf (s : State) : (s.clearRegisters).ovf = false := rfl
@[simp] theorem State.clearRegisters_ghost (s : State) : (s.clearRegisters).ghost = s.ghost := rfl
@[simp] theorem State.clearRegisters_pending (s : State) : (s.clearRegisters).pending = s.pending := rfl
@[simp] theorem State.clearRegisters_slot (s : State) : (s.clearRegisters).slot = s.slot := rfl

@[simp] theorem State.place_cfg (s : State) (l : Line) : (s.place l).cfg = s.cfg := rfl
@[simp] theorem State.place_rom (s : State) (l : Line) : (s.place l).rom = s.rom := rfl
@[simp] theorem State.place_idx (s : State) (l : Line) : (s.place l).idx = s.idx := rfl
@[simp] theorem State.place_w0 (s : State) (l : Line) : (s.place l).w0 = s.w0 := rfl
@[simp] theorem State.place_cmpb (s : State) (l : Line) : (s.place l).cmpb = s.cmpb := rfl
@[simp] theorem State.place_cmpa (s : State) (l : Line) : (s.place l).cmpa = s.cmpa := rfl
@[simp] theorem State.place_cnt (s : State) (l : Line) : (s.place l).cnt = s.cnt := rfl
@[simp] theorem State.place_div (s : State) (l : Line) : (s.place l).div = s.div := rfl
@[simp] theorem State.place_ctrl (s : State) (l : Line) : (s.place l).ctrl = s.ctrl := rfl
@[simp] theorem State.place_hpc (s : State) (l : Line) : (s.place l).hpc = s.hpc := rfl
@[simp] theorem State.place_ovf (s : State) (l : Line) : (s.place l).ovf = s.ovf := rfl
@[simp] theorem State.place_ghost (s : State) (l : Line) : (s.place l).ghost = s.ghost := rfl
@[simp] theorem State.place_pending (s : State) (l : Line) : (s.place l).pending = l :: s.pending := rfl
@[simp] theorem State.place_slot (s : State) (l : Line) : (s.place l).slot = s.slot := rfl

@[simp] theorem State.powerOn_cfg (c : Config) (m : Memory) : (State.powerOn c m).cfg = c := rfl
@[simp] theorem State.powerOn_rom (c : Config) (m : Memory) : (State.powerOn c m).rom = m := rfl
@[simp] theorem State.powerOn_idx (c : Config) (m : Memory) : (State.powerOn c m).idx = 0 := rfl
@[simp] theorem State.powerOn_w0 (c : Config) (m : Memory) : (State.powerOn c m).w0 = 0 := rfl
@[simp] theorem State.powerOn_cmpb (c : Config) (m : Memory) : (State.powerOn c m).cmpb = 0 := rfl
@[simp] theorem State.powerOn_cmpa (c : Config) (m : Memory) : (State.powerOn c m).cmpa = 0 := rfl
@[simp] theorem State.powerOn_cnt (c : Config) (m : Memory) : (State.powerOn c m).cnt = 0 := rfl
@[simp] theorem State.powerOn_div (c : Config) (m : Memory) : (State.powerOn c m).div = 0#10 := rfl
@[simp] theorem State.powerOn_ctrl (c : Config) (m : Memory) : (State.powerOn c m).ctrl = Ctrl.zero := rfl
@[simp] theorem State.powerOn_hpc (c : Config) (m : Memory) : (State.powerOn c m).hpc = 0#3 := rfl
@[simp] theorem State.powerOn_ovf (c : Config) (m : Memory) : (State.powerOn c m).ovf = false := rfl
@[simp] theorem State.powerOn_ghost (c : Config) (m : Memory) : (State.powerOn c m).ghost = Ghost.empty := rfl
@[simp] theorem State.powerOn_pending (c : Config) (m : Memory) : (State.powerOn c m).pending = [] := rfl
@[simp] theorem State.powerOn_slot (c : Config) (m : Memory) : (State.powerOn c m).slot = 0 := rfl

end Sys2Proof.Machine
end

