-- ==== Sys2Proof/Laws/Word.lean ====
section
/-! SUPPORT. What a register's width does to a value. -/

namespace Sys2Proof

theorem trunc_lt (width v : Nat) : trunc width v < 2 ^ width := Nat.mod_lt _ (Nat.two_pow_pos _)

theorem trunc_of_lt {width v : Nat} (h : v < 2 ^ width) : trunc width v = v := Nat.mod_eq_of_lt h

@[simp] theorem trunc_trunc (width v : Nat) : trunc width (trunc width v) = trunc width v :=
  trunc_of_lt (trunc_lt width v)

@[simp] theorem trunc_zero (width : Nat) : trunc width 0 = 0 := Nat.zero_mod _

end Sys2Proof
end

