-- ==== Sys2Proof/Laws/Ops.lean ====
section
/-! SUPPORT. For each shared operation, everything it can answer. -/

namespace Sys2Proof.Machine

/-- An operation under its guard answers its next state exactly when the guard holds. -/
theorem issue_eq_next {guard : Bool} {t u : State} : issue guard t = .next u ↔ guard = true ∧ t = u := by
  cases guard <;> simp [issue]

/-- It never faults. -/
theorem issue_ne_fault {guard : Bool} {t : State} {r : Fault} : issue guard t ≠ .fault r := by
  cases guard <;> simp [issue]

/-- Its one refusal is `guard_false`. -/
theorem issue_eq_refused {guard : Bool} {t : State} {r : Refusal} :
    issue guard t = .refused r ↔ guard = false ∧ r = .guardFalse := by
  cases guard <;> simp [issue, eq_comm]

@[simp] theorem issue_true (t : State) : issue true t = .next t := rfl

@[simp] theorem issue_false (t : State) : issue false t = .refused .guardFalse := rfl

theorem State.tickEffect_of_atTop {s : State} (h : s.atTop = true) : s.tickEffect = s.wrap := if_pos h

theorem State.tickEffect_of_not_atTop {s : State} (h : s.atTop = false) :
    s.tickEffect = s.setCnt (s.cnt + 1) := by simp [State.tickEffect, h]

/-- A tick wraps or counts. -/
theorem State.tickEffect_cases (s : State) :
    (s.atTop = true ∧ s.tickEffect = s.wrap) ∨ (s.atTop = false ∧ s.tickEffect = s.setCnt (s.cnt + 1)) := by
  cases h : s.atTop
  · exact .inr ⟨rfl, State.tickEffect_of_not_atTop h⟩
  · exact .inl ⟨rfl, State.tickEffect_of_atTop h⟩

/-- A clock does nothing, counts, or ticks with the divider cleared. -/
theorem State.clockEffect_cases (s : State) :
    (s.timerRuns = false ∧ s.clockEffect = s) ∨
    (s.timerRuns = true ∧ s.tickDue = false ∧ s.clockEffect = { s with div := s.div + 1#10 }) ∨
    (s.timerRuns = true ∧ s.tickDue = true ∧ s.clockEffect = State.tickEffect { s with div := 0#10 }) := by
  unfold State.clockEffect
  cases s.timerRuns <;> cases s.tickDue <;> simp

/-- A table read that answers a sample is at an index below `N`. -/
theorem State.table_eq_some {s : State} {i v : Nat} (h : s.table i = some v) : i < s.cfg.n := by
  unfold State.table Memory.read at h
  split at h
  · assumption
  · cases h

/-- The next line is the first placed one, or one of the free schedule; nothing but the schedule changes. -/
theorem State.takeLine_cases (s : State) :
    (∃ l rest, s.pending = l :: rest ∧ s.takeLine = (l, { s with pending := rest })) ∨
    (s.pending = [] ∧ s.takeLine = (Config.schedule s.slot, { s with slot := s.slot + 1 })) := by
  unfold State.takeLine
  cases s.pending with
  | nil => exact .inr ⟨rfl, rfl⟩
  | cons l rest => exact .inl ⟨l, rest, rfl, rfl⟩

/-- A line names an operation when its word decodes to one that the named agent, if any, issues. -/
theorem readLine_eq_ok {regBits : Nat} {l : Line} {i : Instr} :
    readLine regBits l = .ok i ↔ decode regBits l.2 = .ok i ∧ (l.1 = none ∨ l.1 = some i.issuer) := by
  unfold readLine
  cases hd : decode regBits l.2 with
  | error e => simp
  | ok j =>
    cases ha : l.1 with
    | none => simp
    | some a =>
      by_cases h : a = j.issuer
      · simp only [h, if_true, Except.ok.injEq]
        constructor
        · rintro rfl; simp
        · exact fun h => h.1
      · simp only [h, if_false, reduceCtorEq, false_iff, Except.ok.injEq, Option.some.injEq, false_or, not_and]
        rintro rfl; exact h

end Sys2Proof.Machine
end

