-- ==== Sys2Proof/Laws/Exec.lean ====
section
/-! SUPPORT. For each operation, exactly when it answers a next state and which. -/

namespace Sys2Proof.Machine

theorem execIdle_next {s t : State} : exec .idle s = .next t ↔ s.hpc = 0#3 ∧ s = t := by
  simp [exec, execIdle, issue_eq_next, State.fgFree]

theorem execSetgie_next {b : Bool} {s t : State} :
    exec (.setgie b) s = .next t ↔ s.hpc = 0#3 ∧ { s with ctrl := { s.ctrl with gie := b } } = t := by
  simp [exec, execSetgie, issue_eq_next, State.fgFree]

theorem execSetmode_next {b : Bool} {s t : State} :
    exec (.setmode b) s = .next t ↔ s.hpc = 0#3 ∧ { s with ctrl := { s.ctrl with mode := b } } = t := by
  simp [exec, execSetmode, issue_eq_next, State.fgFree]

theorem execSetps_next {c : BitVec 3} {s t : State} :
    exec (.setps c) s = .next t ↔
      s.hpc = 0#3 ∧ { s with ctrl := { s.ctrl with ps := c }, div := 0#10 } = t := by
  simp [exec, execSetps, issue_eq_next, State.fgFree]

theorem execPinout_next {s t : State} :
    exec .pinout s = .next t ↔ s.hpc = 0#3 ∧ { s with ctrl := { s.ctrl with poe := true } } = t := by
  simp [exec, execPinout, issue_eq_next, State.fgFree]

theorem execInstall_next {s t : State} :
    exec .install s = .next t ↔ s.hpc = 0#3 ∧ { s with ctrl := { s.ctrl with ovie := true } } = t := by
  simp [exec, execInstall, issue_eq_next, State.fgFree]

theorem execWrcmpb_next {v : BitVec 12} {s t : State} :
    exec (.wrcmpb v) s = .next t ↔ s.hpc = 0#3 ∧ s.setCmpb v.toNat = t := by
  simp [exec, execWrcmpb, issue_eq_next, State.fgFree]

theorem execReset_next {s t : State} : exec .reset s = .next t ↔ s.clearRegisters = t := by
  simp [exec, execReset]

theorem execClk_next {s t : State} : exec .clk s = .next t ↔ s.clockEffect = t := by
  simp [exec, execClk]

theorem execTick_next {s t : State} :
    exec .tick s = .next t ↔ s.timerRuns = true ∧ s.tickEffect = t := by
  simp [exec, execTick, issue_eq_next]

theorem execIenter_next {s t : State} :
    exec .ienter s = .next t ↔
      (s.hpc = 0#3 ∧ s.ovf = true ∧ s.ctrl.ovie = true ∧ s.ctrl.gie = true) ∧ s.enterInterrupt = t := by
  simp [exec, execIenter, issue_eq_next, State.canEnter, and_assoc]

theorem execLdidx_next {s t : State} :
    exec .ldidx s = .next t ↔ s.hpc = 1#3 ∧ { s with w0 := s.idx, hpc := 2#3 } = t := by
  simp [exec, execLdidx, issue_eq_next]

theorem execWrcmp_next {s t : State} :
    exec .wrcmp s = .next t ↔ s.hpc = 2#3 ∧ ∃ v, s.table s.w0 = some v ∧ s.writeSample v = t := by
  unfold exec execWrcmp
  by_cases h : s.hpc = 2#3
  · by_cases hw : s.w0 < s.cfg.n
    · cases ht : s.table s.w0 <;> simp [h, hw]
    · have : s.table s.w0 = none := by simp [State.table, Memory.read, hw]
      simp [h, hw, this]
  · simp [h]

theorem execIncidx_next {s t : State} :
    exec .incidx s = .next t ↔ s.hpc = 3#3 ∧ { s.setIdx (s.idx + 1) with hpc := 4#3 } = t := by
  simp [exec, execIncidx, issue_eq_next]

theorem execMskidx_next {s t : State} :
    exec .mskidx s = .next t ↔ s.hpc = 4#3 ∧ { s with idx := s.idx &&& s.cfg.mask, hpc := 5#3 } = t := by
  simp [exec, execMskidx, issue_eq_next]

theorem execIret_next {s t : State} :
    exec .iret s = .next t ↔ s.hpc = 5#3 ∧ s.returnFromInterrupt = t := by
  simp [exec, execIret, issue_eq_next]

end Sys2Proof.Machine
end

