-- ==== Sys2Proof/Laws/Memory.lean ====
section
/-! SUPPORT. Every operation on the ROM keeps its canonical form. -/

namespace Sys2Proof.Machine

theorem Memory.wfFrom_cons {c : Config} {lo a v : Nat} {m : Memory} :
    Memory.wfFrom c lo ((a, v) :: m) = true ↔
      lo ≤ a ∧ a < c.n ∧ unlistedSample c a ≠ some v ∧ Memory.wfFrom c (a + 1) m = true := by
  simp [Memory.wfFrom, and_assoc]

theorem Memory.wfFrom_mono {c : Config} {lo lo' : Nat} (h : lo' ≤ lo) :
    ∀ {m : Memory}, Memory.wfFrom c lo m = true → Memory.wfFrom c lo' m = true
  | [], _ => rfl
  | (a, v) :: m, hm => by
    obtain ⟨h1, h2⟩ := Memory.wfFrom_cons.mp hm
    exact Memory.wfFrom_cons.mpr ⟨le_trans h h1, h2⟩

theorem Memory.erase_wfFrom {c : Config} (i : Nat) :
    ∀ {m : Memory} {lo : Nat}, Memory.wfFrom c lo m = true → Memory.wfFrom c lo (Memory.erase i m) = true
  | [], _, _ => rfl
  | (a, v) :: m, lo, hm => by
    obtain ⟨h1, h2, h3, h4⟩ := Memory.wfFrom_cons.mp hm
    unfold Memory.erase
    split
    · exact Memory.wfFrom_mono (by omega) h4
    · exact Memory.wfFrom_cons.mpr ⟨h1, h2, h3, Memory.erase_wfFrom i h4⟩

theorem Memory.insert_wfFrom {c : Config} {i v : Nat} (hi : i < c.n) (hv : unlistedSample c i ≠ some v) :
    ∀ {m : Memory} {lo : Nat}, lo ≤ i → Memory.wfFrom c lo m = true →
      Memory.wfFrom c lo (Memory.insert i v m) = true
  | [], _, hlo, _ => Memory.wfFrom_cons.mpr ⟨hlo, hi, hv, rfl⟩
  | (a, u) :: m, lo, hlo, hm => by
    obtain ⟨h1, h2, h3, h4⟩ := Memory.wfFrom_cons.mp hm
    unfold Memory.insert
    split
    · exact Memory.wfFrom_cons.mpr ⟨hlo, hi, hv, Memory.wfFrom_cons.mpr ⟨by omega, h2, h3, h4⟩⟩
    · split
      · rename_i h; subst h; exact Memory.wfFrom_cons.mpr ⟨hlo, hi, hv, h4⟩
      · exact Memory.wfFrom_cons.mpr ⟨h1, h2, h3, Memory.insert_wfFrom hi hv (by omega) h4⟩

/-- Programming a sample keeps the canonical form. -/
theorem Memory.write_wf {c : Config} {m : Memory} (i v : Nat) (h : Memory.wf c m = true) :
    Memory.wf c (Memory.write c m i v) = true := by
  unfold Memory.write
  split
  · split
    · exact Memory.erase_wfFrom i h
    · exact Memory.insert_wfFrom ‹_› ‹_› (Nat.zero_le _) h
  · exact h

theorem Memory.programFrom_wf {c : Config} :
    ∀ (t : List Nat) (i : Nat) {m : Memory}, Memory.wf c m = true →
      Memory.wf c (Memory.programFrom c m i t) = true
  | [], _, _, h => h
  | v :: t, i, _, h => Memory.programFrom_wf t (i + 1) (Memory.write_wf i v h)

/-- Programming a table gives the canonical form. -/
theorem Memory.program_wf (c : Config) (t : List Nat) : Memory.wf c (Memory.program c t) = true :=
  Memory.programFrom_wf t 0 rfl

/-- The ROM of the reset state has the canonical form. -/
theorem State.reset_rom_wf : Memory.wf State.reset.cfg State.reset.rom = true := rfl

/-- A read answers for the indices below `N` alone. -/
theorem Memory.read_eq_some {c : Config} {m : Memory} {i v : Nat} (h : Memory.read c m i = some v) :
    i < c.n := by
  unfold Memory.read at h
  split at h
  · assumption
  · cases h

end Sys2Proof.Machine
end

