-- ==== Sys2Proof/Laws/PerInstr.lean ====
section
/-! SUPPORT. Facts stated of each operation as syntax. -/

namespace Sys2Proof.Laws

/-- `OPC[3]` separates the operations the hardware performs of itself, those of TMR and SEQ, from those
that come on the host port or the reset input (R84). -/
def PortClass.Statement (i : Instr) : Prop :=
  (encode i).getLsbD 15 = true ↔ i.issuer = .tmr ∨ i.issuer = .seq

/-- Bit 15 of an operation's word is bit 3 of its code. -/
theorem encode_bit15 (i : Instr) : (encode i).getLsbD 15 = i.opcode.getLsbD 3 := by
  unfold encode
  rw [BitVec.getLsbD_append]
  rfl

theorem PortClass.idle : PortClass.Statement .idle := by
  simp only [PortClass.Statement, encode_bit15, Instr.opcode, Instr.issuer]; decide

theorem PortClass.setgie (b : Bool) : PortClass.Statement (.setgie b) := by
  simp only [PortClass.Statement, encode_bit15, Instr.opcode, Instr.issuer]; decide

theorem PortClass.setmode (b : Bool) : PortClass.Statement (.setmode b) := by
  simp only [PortClass.Statement, encode_bit15, Instr.opcode, Instr.issuer]; decide

theorem PortClass.setps (c : BitVec 3) : PortClass.Statement (.setps c) := by
  simp only [PortClass.Statement, encode_bit15, Instr.opcode, Instr.issuer]; decide

theorem PortClass.pinout : PortClass.Statement .pinout := by
  simp only [PortClass.Statement, encode_bit15, Instr.opcode, Instr.issuer]; decide

theorem PortClass.install : PortClass.Statement .install := by
  simp only [PortClass.Statement, encode_bit15, Instr.opcode, Instr.issuer]; decide

theorem PortClass.wrcmpb (v : BitVec 12) : PortClass.Statement (.wrcmpb v) := by
  simp only [PortClass.Statement, encode_bit15, Instr.opcode, Instr.issuer]; decide

theorem PortClass.reset : PortClass.Statement .reset := by
  simp only [PortClass.Statement, encode_bit15, Instr.opcode, Instr.issuer]; decide

theorem PortClass.clk : PortClass.Statement .clk := by
  simp only [PortClass.Statement, encode_bit15, Instr.opcode, Instr.issuer]; decide

theorem PortClass.tick : PortClass.Statement .tick := by
  simp only [PortClass.Statement, encode_bit15, Instr.opcode, Instr.issuer]; decide

theorem PortClass.ienter : PortClass.Statement .ienter := by
  simp only [PortClass.Statement, encode_bit15, Instr.opcode, Instr.issuer]; decide

theorem PortClass.ldidx : PortClass.Statement .ldidx := by
  simp only [PortClass.Statement, encode_bit15, Instr.opcode, Instr.issuer]; decide

theorem PortClass.wrcmp : PortClass.Statement .wrcmp := by
  simp only [PortClass.Statement, encode_bit15, Instr.opcode, Instr.issuer]; decide

theorem PortClass.incidx : PortClass.Statement .incidx := by
  simp only [PortClass.Statement, encode_bit15, Instr.opcode, Instr.issuer]; decide

theorem PortClass.mskidx : PortClass.Statement .mskidx := by
  simp only [PortClass.Statement, encode_bit15, Instr.opcode, Instr.issuer]; decide

theorem PortClass.iret : PortClass.Statement .iret := by
  simp only [PortClass.Statement, encode_bit15, Instr.opcode, Instr.issuer]; decide

end Sys2Proof.Laws
end

