-- ==== Sys2Proof/Laws/Setup.lean ====
section
/-! SUPPORT. What judging and loading a schedule can answer, and the foreground's program of a sequence. -/

namespace Sys2Proof.Machine

@[simp] theorem checkOps_nil (prescaler : Nat) (p : SetupProgress) : checkOps prescaler p [] = .ok p := rfl

theorem checkOps_cons_ok {prescaler : Nat} {p q : SetupProgress} {i : Instr} (rest : List Instr)
    (h : observe prescaler p i = .ok q) : checkOps prescaler p (i :: rest) = checkOps prescaler q rest := by
  simp [checkOps, h]

theorem checkOps_cons_error {prescaler : Nat} {p : SetupProgress} {r : Refusal} {i : Instr} (rest : List Instr)
    (h : observe prescaler p i = .error r) : checkOps prescaler p (i :: rest) = .error r := by
  simp [checkOps, h]

/-- A sequence is judged part by part. -/
theorem checkOps_append {prescaler : Nat} {a : List Instr} (b : List Instr) :
    ∀ {p q : SetupProgress}, checkOps prescaler p a = .ok q →
      checkOps prescaler p (a ++ b) = checkOps prescaler q b := by
  induction a with
  | nil => rintro p q h; cases h; rfl
  | cons i a ih =>
    intro p q h
    cases ho : observe prescaler p i with
    | error r => rw [checkOps_cons_error a ho] at h; cases h
    | ok p' =>
      rw [checkOps_cons_ok a ho] at h
      rw [List.cons_append, checkOps_cons_ok _ ho, ih h]

/-- `RESET` starts the foreground's program again (R207). -/
@[simp] theorem observe_reset (prescaler : Nat) (p : SetupProgress) :
    observe prescaler p .reset = .ok SetupProgress.start := rfl

/-- The operations of the timer and the sequencer are no part of the setup. -/
theorem observe_hardware (prescaler : Nat) (p : SetupProgress) {i : Instr} (h : i.issuer = .tmr ∨ i.issuer = .seq) :
    observe prescaler p i = .ok p := by
  rcases h with h | h <;> simp [observe, h]

/-- A load answers the verdict on the whole schedule. -/
theorem load_eq_next {s t : State} {lines : List Line} :
    load s lines = .next t ↔ { s with pending := lines } = t ∧ ∃ q, judgeSchedule s.cfg lines = .ok q := by
  unfold load
  cases judgeSchedule s.cfg lines <;> simp

theorem load_eq_refused {s : State} {lines : List Line} {r : Refusal} :
    load s lines = .refused r ↔ judgeSchedule s.cfg lines = .error r := by
  unfold load
  cases judgeSchedule s.cfg lines <;> simp

@[simp] theorem fgProgram_nil : fgProgram [] = [] := rfl

theorem fgProgram_cons_fg {i : Instr} (rest : List Instr) (h : i.issuer = .fg) :
    fgProgram (i :: rest) = i :: fgProgram rest := by
  simp [fgProgram, h]

theorem fgProgram_cons_other {i : Instr} (rest : List Instr) (h : i.issuer ≠ .fg) :
    fgProgram (i :: rest) = fgProgram rest := by
  simp [fgProgram, h]

/-- A live block is live or in service. -/
theorem State.liveOrInService_of_live {s : State} (h : s.live = true) : s.liveOrInService = true := by
  simp only [State.live, State.liveOrInService, Bool.and_eq_true] at h ⊢
  exact ⟨⟨⟨by rw [h.1.1.1]; rfl, h.1.1.2⟩, h.1.2⟩, h.2⟩

end Sys2Proof.Machine
end

