-- ==== Sys2Proof/Laws/Step.lean ====
section
/-! SUPPORT. What a step and a sequence of operations can answer. -/

namespace Sys2Proof.Machine

/-- A step that answers a next state performed the operation of the line it took. -/
theorem step_eq_next {s t : State} :
    step s = .next t ↔ ∃ i, readLine s.cfg.regBits s.takeLine.1 = .ok i ∧ exec i s.takeLine.2 = .next t := by
  unfold step
  cases readLine s.cfg.regBits s.takeLine.1 <;> simp

@[simp] theorem runOps_nil (s : State) : runOps [] s = .next s := rfl

theorem runOps_cons_next {i : Instr} {rest : List Instr} {s t : State} :
    runOps (i :: rest) s = .next t ↔ ∃ u, exec i s = .next u ∧ runOps rest u = .next t := by
  simp only [runOps]
  cases exec i s <;> simp

theorem runOps_append_next {a b : List Instr} {s t : State} :
    runOps (a ++ b) s = .next t ↔ ∃ u, runOps a s = .next u ∧ runOps b u = .next t := by
  induction a generalizing s with
  | nil => simp
  | cons i a ih =>
    simp only [List.cons_append, runOps_cons_next, ih]
    constructor
    · rintro ⟨u, hu, v, hv, ht⟩; exact ⟨v, ⟨u, hu, hv⟩, ht⟩
    · rintro ⟨v, ⟨u, hu, hv⟩, ht⟩; exact ⟨u, hu, v, hv, ht⟩

end Sys2Proof.Machine
end

