-- ==== Sys2Proof/Tests/Slice0.lean ====
section
/-! SUPPORT. The model's own tests. Expected values are the spec's: its worked encodings (R94), its
opcode table, and the vectors of `95_test_vectors.md`, whose ids stand in the comments. After them, for each
statement with hypotheses, a witness that meets them. -/

namespace Sys2Proof.Tests

open Sys2Proof Sys2Proof.Machine

/-! ## Helpers -/

/-- A field of the next state, or none where there is no next state. -/
def after {α : Type} (r : Result) (f : State → α) : Option α :=
  match r with
  | .next t => some (f t)
  | .fault _ => none
  | .refused _ => none

/-- The refusal, if it is one. -/
def refusalOf (r : Result) : Option Refusal :=
  match r with
  | .next _ => none
  | .fault _ => none
  | .refused r => some r

/-- Setup has completed with `PRESCALER = 1` and an event is pending. -/
def ready : State :=
  { State.reset with ctrl := { ps := 1#3, mode := true, poe := true, ovie := true, gie := true }, ovf := true }

/-- In service at the step `h`. -/
def inService (h : BitVec 3) : State :=
  { State.reset with ctrl := { ps := 1#3, mode := true, poe := true, ovie := true, gie := false }, hpc := h }

/-- The timer runs with the code `ps`, the divider at `d` and the counter at `k`. -/
def running (ps : BitVec 3) (d : BitVec 10) (k : Nat) : State :=
  { State.reset with ctrl := { ps := ps, mode := true, poe := true, ovie := false, gie := false }, div := d, cnt := k }

/-- Eight-bit parameters with `N` samples. -/
def sized (n : Nat) : Config := { Config.initial with n := n }

/-- Ten-bit counter and compare registers. -/
def tenBits : Config := { Config.initial with timerBits := 10 }

/-! ## Decoding: one word for every operation, bit by bit from R83 -/

theorem test_decode_idle : decode 8 0b0000000000000000#16 = .ok .idle := by decide
theorem test_decode_setgie : decode 8 0b0001000000000001#16 = .ok (.setgie true) := by decide
theorem test_decode_setmode : decode 8 0b0010000000000001#16 = .ok (.setmode true) := by decide
theorem test_decode_setps : decode 8 0b0011000000000110#16 = .ok (.setps 6#3) := by decide
theorem test_decode_pinout : decode 8 0b0100000000000000#16 = .ok .pinout := by decide
theorem test_decode_install : decode 8 0b0101000000000000#16 = .ok .install := by decide
theorem test_decode_wrcmpb : decode 8 0b0110000011001000#16 = .ok (.wrcmpb 200#12) := by decide
theorem test_decode_reset : decode 8 0b0111000000000000#16 = .ok .reset := by decide
theorem test_decode_clk : decode 8 0b1000000000000000#16 = .ok .clk := by decide
theorem test_decode_tick : decode 8 0b1001000000000000#16 = .ok .tick := by decide
theorem test_decode_ienter : decode 8 0b1010000000000000#16 = .ok .ienter := by decide
theorem test_decode_ldidx : decode 8 0b1011000000000000#16 = .ok .ldidx := by decide
theorem test_decode_wrcmp : decode 8 0b1100000000000000#16 = .ok .wrcmp := by decide
theorem test_decode_incidx : decode 8 0b1101000000000000#16 = .ok .incidx := by decide
theorem test_decode_mskidx : decode 8 0b1110000000000000#16 = .ok .mskidx := by decide
theorem test_decode_iret : decode 8 0b1111000000000000#16 = .ok .iret := by decide

/-- E9. -/
theorem test_decode_illegal : (([0x0001, 0x0800, 0x1002, 0x1FFF, 0x2002, 0x3008, 0x3010, 0x4001, 0x5800, 0x6100,
    0x6FFF, 0x7001, 0x8001, 0x9800, 0xA001, 0xF800, 0xFFFF] : List OpWord).all
      fun w => decide (decode 8 w = .error .illegal)) = true := by decide

/-- E13. -/
theorem test_decode_ten_bits : decode 10 0x6100#16 = .ok (.wrcmpb 256#12) ∧
    decode 10 0x63FF#16 = .ok (.wrcmpb 1023#12) ∧ decode 10 0x6400#16 = .error .illegal := by decide

/-- E11. -/
theorem test_encode : encode (.setps 5#3) = 0x3005#16 ∧ encode (.wrcmpb 200#12) = 0x60C8#16 := by decide

/-- E6 as the host's table numbers it; a word that spells nothing reads as none. -/
theorem test_table_word : decodeTableWord 16 0x60FF = some (.wrcmpb 255#12) ∧
    decodeTableWord 16 0x6100 = none := by decide

/-! ## Well-formedness: an ill-formed term for each check -/

theorem test_wf_refuses_wide_operand : Instr.wf 8 (.wrcmpb 256#12) = false := by decide
theorem test_wf_takes_widest_operand : Instr.wf 8 (.wrcmpb 255#12) = true := by decide
theorem test_wf_refuses_setup_factor : Pseudo.wf (.setup 16) = false := by decide
theorem test_wf_refuses_configure_factor : Pseudo.wf (.configure 0 true) = false := by decide

/-! ## The foreground's operations -/

/-- F15: held in service. -/
theorem test_idle_held : refusalOf (exec .idle (inService 3#3)) = some .guardFalse := by decide
/-- F1. -/
theorem test_idle : after (exec .idle ready) id = some ready := by decide
/-- F2. -/
theorem test_setgie_clears : after (exec (.setgie false) ready) (fun t => (t.ctrl.gie, t.ctrl.ovie)) =
    some (false, true) := by decide
/-- F5. -/
theorem test_setmode : after (exec (.setmode true) State.reset) (fun t => (t.ctrl.word, t.timerRuns)) =
    some (0x10#8, false) := by decide
/-- F6. -/
theorem test_setmode_stops : after (exec (.setmode false) (running 1#3 0#10 40)) (fun t => (t.cnt, t.timerRuns, t.pin)) =
    some (40, false, .low) := by decide
/-- F8. -/
theorem test_setps_clears_divider : after (exec (.setps 7#3) (running 7#3 1000#10 9)) (fun t => (t.ctrl.ps, t.div, t.cnt)) =
    some (7#3, 0#10, 9) := by decide
/-- F10. -/
theorem test_pinout : after (exec .pinout State.reset) (fun t => (t.ctrl.word, t.pin)) = some (0x20#8, .low) := by decide
/-- F12. -/
theorem test_install_keeps_event : after (exec .install { State.reset with ovf := true }) (fun t => (t.ctrl.word, t.ovf, t.canEnter)) =
    some (0x40#8, true, false) := by decide
/-- F13. -/
theorem test_wrcmpb : after (exec (.wrcmpb 128#12) State.reset) (fun t => (t.cmpb, t.cmpa, t.ghost.wtrace)) =
    some (128, 0, []) := by decide

/-! ## Reset -/

/-- Z1. -/
theorem test_reset_in_service :
    after (exec .reset { inService 3#3 with idx := 200, w0 := 200, cmpb := 2, cmpa := 2, cnt := 77 }) id =
      some State.reset := by decide

/-! ## The timer and the pin -/

/-- K4. -/
theorem test_clk_counts : after (exec .clk (running 2#3 6#10 17)) (fun t => (t.div, t.cnt)) = some (7#10, 17) := by decide
/-- K9, second clock. -/
theorem test_clk_ticks : after (exec .clk { running 7#3 1023#10 255 with cmpb := 9 }) (fun t => (t.div, t.cnt, t.cmpa, t.ovf)) =
    some (0#10, 0, 9, true) := by decide
/-- K7. -/
theorem test_tick_wraps : after (exec .tick { running 1#3 0#10 255 with cmpb := 200, cmpa := 10, ovf := true })
    (fun t => (t.cnt, t.cmpa, t.ovf, t.ghost)) = some (0, 200, true, ⟨[], [200], 1, 1, 0⟩) := by decide
/-- K12: a ten-bit counter does not wrap at 255. -/
theorem test_tick_ten_bits : after (exec .tick { running 1#3 0#10 255 with cfg := tenBits }) (fun t => (t.cnt, t.ovf)) =
    some (256, false) := by decide
/-- K2, Z4. -/
theorem test_tick_held : refusalOf (exec .tick State.reset) = some .guardFalse := by decide
/-- K20. -/
theorem test_pin_at_value : State.pin { running 1#3 0#10 200 with cmpa := 200 } = .low ∧
    State.pin { running 1#3 0#10 200 with cmpa := 200, cfg := { Config.initial with pinRule := .le } } = .high := by decide
/-- K17, K18. -/
theorem test_pin_undriven : State.reset.pin = .z ∧
    State.pin { State.reset with ctrl := { Ctrl.zero with poe := true }, cmpa := 200 } = .low := by decide

/-! ## The sequencer -/

/-- Q1. -/
theorem test_ienter : after (exec .ienter ready) (fun t => (t.ovf, t.ctrl.gie, t.hpc, t.ghost.nIsr)) =
    some (false, false, 1#3, 1) := by decide
/-- X7: no nesting. -/
theorem test_ienter_in_service : refusalOf (exec .ienter { inService 3#3 with ovf := true }) = some .guardFalse := by decide
/-- Q3. -/
theorem test_ldidx : after (exec .ldidx { inService 1#3 with idx := 255 }) (fun t => (t.w0, t.hpc)) = some (255, 2#3) := by decide
/-- Q12. -/
theorem test_ldidx_held : refusalOf (exec .ldidx (inService 2#3)) = some .guardFalse := by decide
/-- Q4. -/
theorem test_wrcmp : after (exec .wrcmp { inService 2#3 with w0 := 255, cmpa := 7 }) (fun t => (t.cmpb, t.hpc, t.cmpa, t.ghost.wtrace)) =
    some (124, 3#3, 7, [124]) := by decide
/-- T11. -/
theorem test_wrcmp_out_of_range : (match exec .wrcmp { inService 2#3 with w0 := 256 } with
    | .fault r => decide (r = .tableIndexOutOfRange)
    | _ => false) = true := by decide
/-- Q5. -/
theorem test_incidx : after (exec .incidx { inService 3#3 with idx := 255 }) (fun t => (t.idx, t.hpc)) = some (256, 4#3) := by decide
/-- Q15. -/
theorem test_incidx_wraps : after (exec .incidx { inService 3#3 with idx := 65535 }) (fun t => t.idx) = some 0 := by decide
/-- Q6. -/
theorem test_mskidx : after (exec .mskidx { inService 4#3 with idx := 256 }) (fun t => (t.idx, t.hpc)) = some (0, 5#3) := by decide
/-- Q7. -/
theorem test_mskidx_keeps : after (exec .mskidx { inService 4#3 with idx := 18 }) (fun t => t.idx) = some 18 := by decide
/-- Q8. -/
theorem test_iret : after (exec .iret { inService 5#3 with ovf := true }) (fun t => (t.ctrl.gie, t.hpc, t.canEnter)) =
    some (true, 0#3, true) := by decide

/-! ## The table -/

/-- T9, T10. -/
theorem test_default_samples : ([0, 1, 128, 256, 384, 510, 511].map (defaultSample 512)) =
      [128, 129, 255, 128, 0, 124, 126].map some ∧
    ([0, 1, 256, 512, 768, 1022, 1023].map (defaultSample 1024)) = [128, 128, 255, 128, 0, 126, 127].map some := by
  decide
/-- A sample that equals the default one has no cell; one that differs has. -/
theorem test_rom_cells : Memory.write Config.initial [] 1 131 = [] ∧
    Memory.read Config.initial (Memory.write Config.initial [] 1 130) 1 = some 130 ∧
    Memory.read Config.initial [] 256 = none := by decide

/-! ## Configurations, setup and schedules -/

/-- K1, K4 of `93_implementation_defined.md`; T14. -/
theorem test_build_refuses : refusalOf (build (sized 384) none) = some .badConfiguration ∧
    refusalOf (build { Config.initial with prescaler := 16 } none) = some .badConfiguration ∧
    refusalOf (build Config.initial (some (List.replicate 255 0))) = some .badConfiguration := by decide +kernel
/-- T13. -/
theorem test_build_range : refusalOf (build Config.initial (some (List.replicate 256 256))) = some .badConfiguration := by
  decide +kernel
/-- P8, first four rows. -/
theorem test_setup_verdicts :
    checkOps 1 .start [.setgie false, .setmode true, .setps 1#3, .pinout, .install, .setgie true, .wrcmpb 5#12] =
      .error .foregroundWriteAfterSetup ∧
    checkOps 1 .start [.setmode true, .setps 1#3, .pinout, .install] = .error .illFormedSetup ∧
    checkOps 1 .start [.setgie false, .setmode true, .setps 1#3, .pinout, .setgie true, .install] = .error .illFormedSetup ∧
    checkOps 1 .start [.setgie false, .setmode true, .setps 2#3, .pinout, .install, .setgie true] = .error .illFormedSetup := by
  decide
/-- R207: a second `SETGIE 0`, a repeated step, `SETMODE 0` and a missing step. -/
theorem test_setup_refuses :
    checkOps 1 .start [.setgie false, .setgie false] = .error .illFormedSetup ∧
    checkOps 1 .start [.setgie false, .pinout, .pinout] = .error .illFormedSetup ∧
    checkOps 1 .start [.setgie false, .setmode false] = .error .illFormedSetup ∧
    checkOps 1 .start [.setgie false, .setmode true, .setps 1#3, .install, .setgie true] = .error .illFormedSetup := by decide
/-- Log 6: a word verdict on a later line comes before a setup verdict on an earlier one. -/
theorem test_word_before_setup : refusalOf (load State.reset [(none, 0x2001#16), (none, 0x6100#16)]) = some .illegalWord ∧
    refusalOf (load State.reset [(none, 0x2001#16)]) = some .illFormedSetup := by decide
/-- X2: the second wrap before setup completes loses an event and breaks no deadline (R213); in service the same
wrap does. -/
theorem test_deadline_asks_live : MeetsDeadline [.tick] { running 1#3 0#10 255 with ovf := true } ∧
    ¬ MeetsDeadline [.tick] { inService 2#3 with cnt := 255 } := by
  constructor
  · exact ⟨fun _ h => absurd h (by decide), fun _ _ => trivial⟩
  · exact fun h => absurd (h.1 (by decide) (by decide)) (by decide)
/-- P7 is well formed. -/
theorem test_setup_with_wrcmpb :
    (checkOps 1 .start [.setgie false, .wrcmpb 128#12, .setmode true, .setps 1#3, .pinout, .install, .setgie true]).toOption.map
      SetupProgress.complete = some true := by decide
/-- E14. -/
theorem test_wrong_agent : refusalOf (step (State.reset.place (some .fg, 0x9000#16))) = some .wrongAgent := by decide
/-- P8, seventh row. -/
theorem test_illegal_word : refusalOf (step (State.reset.place (none, 0x6100#16))) = some .illegalWord := by decide
/-- E15, E17, with the text form of R88. -/
theorem test_assemble : (assemble Config.initial "FG : SETUP 8 ; setup\n".toList).map (List.map Prod.snd) =
      some [0x1000#16, 0x2001#16, 0x3002#16, 0x4000#16, 0x5000#16, 0x1001#16] ∧
    assemble Config.initial "SETUP 16".toList = none ∧
    assemble Config.initial ".rep 2 ".toList = none := by decide +kernel

/-! ## Witnesses: for each statement with hypotheses, values that meet them -/

/-- A state of a live block with a pending event keeps the invariants. -/
theorem ready_inv : Inv ready := by
  refine ⟨by decide, by decide +kernel, rfl, ?_, ?_, ?_, ?_, ?_, ?_, ?_, ?_, ?_⟩ <;> decide

/-- So does one in service. -/
theorem inService_inv : Inv (inService 2#3) := by
  refine ⟨by decide, by decide +kernel, rfl, ?_, ?_, ?_, ?_, ?_, ?_, ?_, ?_, ?_⟩ <;> decide

/-- And one just before a wrap with no event pending. -/
theorem quiet_inv : Inv { ready with ovf := false, cnt := 255 } := by
  refine ⟨by decide, by decide +kernel, rfl, ?_, ?_, ?_, ?_, ?_, ?_, ?_, ?_, ?_⟩ <;> decide

theorem witness_DecodeAndEncodeAgree : decode 8 0x6100#16 = .error .illegal ∧ (8 ≤ 8 ∧ 8 < 12 ∧ (0x6100#16).getLsbD 8 = true) ∧
    decode 8 0x3005#16 = .ok (.setps 5#3) ∧ Instr.wf 8 (.wrcmpb 255#12) = true := by decide

theorem witness_RowsSpellTheirOperations : 12 ≤ 12 ∧ 0 ≤ 12 ∧ (⟨0x6#4, "WRCMPB", .v, .fg⟩ : OpRow) ∈ opcodeMap ∧
    OpRow.spells 12 ⟨0x6#4, "WRCMPB", .v, .fg⟩ 0x6FFF#16 = true := by decide

theorem witness_IllegalWordsAreRefused :
    decode 8 (State.reset.place (none, 0x0001#16)).takeLine.1.2 = .error .illegal ∧
    ∃ l ∈ ([(some .tmr, 0x8000#16), (none, 0xFFFF#16)] : List Line), decode 8 l.2 = .error .illegal := by decide

theorem witness_ForeignAgentIsRefused : (State.reset.place (some .fg, 0x9000#16)).takeLine.1 = (some .fg, 0x9000#16) ∧
    decode 8 0x9000#16 = .ok .tick ∧ Agent.fg ≠ Instr.issuer .tick := by decide

theorem witness_StepRunsTheDecodedOperation :
    ((State.reset.place (none, 0x8000#16)).takeLine.1 = (none, 0x8000#16) ∧ decode 8 0x8000#16 = .ok .clk) ∧
    ((State.reset.place (some .tmr, 0x8000#16)).takeLine.1 = (some .tmr, 0x8000#16) ∧ Agent.tmr = Instr.issuer .clk) ∧
    (State.reset.place (none, 0x8000#16)).pending = [(none, 0x8000#16)] ∧ State.reset.pending = [] := by decide

/-- For the statements of `IDLE`, `SETGIE`, `SETMODE`, `SETPS`, `PINOUT`, `INSTALL`, `WRCMPB` and of all of
them together: outside service, in service at its first and last step. -/
theorem witness_foreground : ready.hpc = 0#3 ∧ (inService 1#3).hpc ≠ 0#3 ∧ (inService 5#3).hpc ≠ 0#3 ∧
    Instr.issuer .idle = .fg ∧ Instr.issuer (.wrcmpb 0#12) = .fg := by decide

theorem witness_SetgieWritesTheGlobalEnable :
    (ready.hpc = 0#3 ∧ ready.ctrl.gie = true) ∧ (ready.hpc = 0#3 ∧ ready.ovf = true ∧ ready.ctrl.ovie = true) := by decide

theorem witness_SetmodeWritesTheMode : (∃ t, exec (.setmode true) ready = .next t) ∧
    ∃ t, exec (.setmode false) ready = .next t ∧ t.ctrl.poe = true := ⟨⟨_, rfl⟩, _, rfl, rfl⟩

theorem witness_SetpsWritesTheCodeAndRestartsTheDivider : (∃ t, exec (.setps 0#3) ready = .next t) ∧
    (∃ t, exec (.setps 7#3) ready = .next t) ∧ 7#3 ≠ 0#3 ∧ ready.ctrl.mode = true ∧ 1023 < presc 7#3 :=
  ⟨⟨_, rfl⟩, ⟨_, rfl⟩, by decide⟩

theorem witness_LdidxReadsTheIndex : Inv { inService 2#3 with hpc := 1#3 } ∧
    ∃ t, exec .ldidx { inService 2#3 with hpc := 1#3 } = .next t := by
  refine ⟨?_, _, rfl⟩
  obtain ⟨a, b, c, _, _, f, _, h, _, j, k, l⟩ := inService_inv
  exact ⟨a, b, c, fun _ => by decide, by decide, f, by decide, h, fun _ => by decide, j, k, l⟩

theorem witness_IncidxIncrementsTheIndex : configOk Config.initial = true ∧
    { inService 3#3 with idx := 255 }.idx < Config.initial.n ∧ ∃ t, exec .incidx { inService 3#3 with idx := 255 } = .next t :=
  ⟨by decide, by decide, _, rfl⟩

theorem witness_PinoutDrivesThePin : (∃ t, exec .pinout State.reset = .next t ∧ t.ctrl.mode = false) ∧
    (Instr.idle ≠ .reset ∧ ready.ctrl.poe = true ∧ ∃ t, exec .idle ready = .next t) :=
  ⟨⟨_, rfl, rfl⟩, by decide, rfl, _, rfl⟩

theorem witness_InstallEnablesTheOverflowEvent :
    (State.reset.ctrl.gie = false ∧ ∃ t, exec .install State.reset = .next t) ∧
    (Instr.idle ≠ .reset ∧ ready.ctrl.ovie = true ∧ ∃ t, exec .idle ready = .next t) :=
  ⟨⟨rfl, _, rfl⟩, by decide, rfl, _, rfl⟩

theorem witness_WrcmpbWritesTheBufferAlone : (ready.hpc = 0#3 ∧ (255#12).toNat ≤ ready.cfg.regMax) ∧
    ready.cfg.regMax < (256#12).toNat := by decide

theorem witness_StepsKeepParametersAndTable : (∃ t, exec .reset ready = .next t) ∧
    ∃ t, step (ready.place (none, 0xA000#16)) = .next t := ⟨⟨_, rfl⟩, _, rfl⟩

theorem witness_ResetStateIsQuiescent : Instr.issuer .tick = .tmr ∧ Instr.tick ≠ .clk ∧ Instr.issuer .iret = .seq ∧
    Instr.iret ≠ .clk := by decide

theorem witness_ClkPrescalesTheClock : State.reset.ctrl.mode = false ∧
    ((running 2#3 7#10 17).ctrl.mode = true ∧ (running 2#3 7#10 17).ctrl.ps ≠ 0#3 ∧ (7#10).toNat + 1 = presc 2#3) ∧
    ((running 2#3 6#10 17).ctrl.mode = true ∧ (running 2#3 6#10 17).ctrl.ps ≠ 0#3 ∧ (6#10).toNat + 1 ≠ presc 2#3 ∧
      (6#10).toNat < 1023) ∧ ((1022#10).toNat + 1 ≠ presc 7#3 ∧ (1022#10).toNat < 1023) := by decide

theorem witness_TickCountsAndWraps : State.reset.ctrl.mode = false ∧
    ((running 1#3 0#10 254).ctrl.mode = true ∧ (running 1#3 0#10 254).ctrl.ps ≠ 0#3 ∧ 254 < Config.initial.top) ∧
    (running 1#3 0#10 255).cnt = Config.initial.top := by decide

theorem witness_BufferIsLatchedAtWrapsOnly : (wrapsAt .tick (running 1#3 0#10 255) = true ∧ ∃ t, exec .tick (running 1#3 0#10 255) = .next t) ∧
    (wrapsAt .tick (running 1#3 0#10 254) = false ∧ Instr.tick ≠ .reset ∧ ∃ t, exec .tick (running 1#3 0#10 254) = .next t) ∧
    (∃ t, exec .wrcmp (inService 2#3) = .next t) ∧ ∃ t, exec (.wrcmpb 3#12) ready = .next t :=
  ⟨⟨by decide, _, rfl⟩, ⟨by decide, by decide, _, rfl⟩, ⟨_, rfl⟩, _, rfl⟩

theorem witness_PendingEventsCoalesce : (wrapsAt .clk (running 1#3 0#10 255) = true ∧ (running 1#3 0#10 255).ovf = false) ∧
    (wrapsAt .clk { running 1#3 0#10 255 with ovf := true } = true ∧ ∃ t, exec .clk { running 1#3 0#10 255 with ovf := true } = .next t) :=
  ⟨by decide, by decide, _, rfl⟩

theorem witness_EveryEventIsServedLostOrPending : Instr.reset ∉ [Instr.tick] ∧
    (∃ t, runOps [.tick] (running 1#3 0#10 255) = .next t) ∧
    (running 1#3 0#10 255).ghost.nOvf = (running 1#3 0#10 255).ghost.nIsr + (running 1#3 0#10 255).ghost.nLost +
      (if (running 1#3 0#10 255).ovf then 1 else 0) := ⟨by decide, ⟨_, rfl⟩, by decide⟩

theorem witness_timer : (running 2#3 0#10 255).timerRuns = true ∧ (running 2#3 0#10 255).div = 0#10 ∧
    (running 2#3 0#10 255).cnt ≤ (running 2#3 0#10 255).cfg.top := by decide

theorem witness_PinFollowsTheComparison : State.reset.ctrl.poe = false ∧
    ({ Ctrl.zero with poe := true }.poe = true ∧ { Ctrl.zero with poe := true }.mode = false) ∧
    (ready.ctrl.poe = true ∧ ready.ctrl.mode = true ∧ ready.cfg.pinRule = .lt) ∧
    { Config.initial with pinRule := .le }.pinRule = .le := by decide

theorem witness_DutyIsTheActiveValue : ready.ctrl.poe = true ∧ ready.ctrl.mode = true ∧
    { ready with cmpa := 255 }.cmpa ≤ ready.cfg.regMax ∧ ready.cfg.pinRule = .lt ∧
    { Config.initial with pinRule := .le }.pinRule = .le ∧
    (3 ≤ 4 ∧ State.pin { ready with cmpa := 5, cnt := 4 } = .high) := by decide

theorem witness_IenterTakesTheInterrupt :
    (ready.hpc = 0#3 ∧ ready.ovf = true ∧ ready.ctrl.ovie = true ∧ ready.ctrl.gie = true) ∧ State.reset.ovf ≠ true := by decide

/-- For the statements of `LDIDX`, `INCIDX`, `MSKIDX`, `IRET`: at the operation's own step and at another. -/
theorem witness_sequencer : (inService 1#3).hpc = 1#3 ∧ (inService 3#3).hpc = 3#3 ∧ (inService 4#3).hpc = 4#3 ∧
    (inService 5#3).hpc = 5#3 ∧ (inService 2#3).hpc ≠ 1#3 ∧ (inService 2#3).hpc ≠ 3#3 ∧ (inService 2#3).hpc ≠ 4#3 ∧
    (inService 2#3).hpc ≠ 5#3 := by decide

theorem witness_WrcmpWritesTheSample :
    ((inService 2#3).hpc = 2#3 ∧ State.table { inService 2#3 with w0 := 255 } 255 = some 124 ∧ 124 ≤ Config.initial.regMax) ∧
    Config.initial.n ≤ { inService 2#3 with w0 := 256 }.w0 ∧ (inService 3#3).hpc ≠ 2#3 := by decide

theorem witness_MskidxMasksTheIndex : configOk Config.initial = true ∧
    (∃ t, exec .mskidx { inService 4#3 with idx := 255 } = .next t) ∧ 255 < Config.initial.n ∧
    (∃ t, exec .mskidx { inService 4#3 with idx := 256 } = .next t) ∧ 256 = Config.initial.n :=
  ⟨by decide, ⟨_, rfl⟩, by decide, ⟨_, rfl⟩, rfl⟩

theorem witness_IretReturnsFromTheInterrupt : { inService 5#3 with ovf := true }.hpc = 5#3 ∧
    { inService 5#3 with ovf := true }.ovf = true ∧ { inService 5#3 with ovf := true }.ctrl.ovie = true := by decide

theorem witness_HandlerStepsFollowOneAnother : (∃ t, exec .iret (inService 5#3) = .next t) ∧ Instr.issuer .iret = .seq ∧
    (∃ t, exec .clk (inService 5#3) = .next t) ∧ Instr.issuer .clk = .tmr ∧
    (∃ t, exec .idle ready = .next t) ∧ Instr.issuer .idle = .fg := ⟨⟨_, rfl⟩, rfl, ⟨_, rfl⟩, rfl, ⟨_, rfl⟩, rfl⟩

theorem witness_WritersOfEachElement : ∃ t, exec .wrcmp (inService 2#3) = .next t := ⟨_, rfl⟩

theorem witness_InvariantStatesRunEveryGuardedOperation : Inv (inService 2#3) ∧ guardOf .wrcmp (inService 2#3) = true :=
  ⟨inService_inv, by decide⟩

theorem witness_IndexAdvanceIndependentOfWidth : (inService 3#3).hpc = 3#3 ∧ (sized 1024).n ∈ [256, 512, 1024] ∧
    (sized 1024).idxBits ≤ 10 ∧ 1023 < (sized 1024).n := by decide

theorem witness_ServiceNetEffect : Inv ready ∧ ready.hpc = 0#3 ∧ ready.ovf = true ∧ ready.ctrl.ovie = true ∧
    ready.ctrl.gie = true ∧
    ∀ i ∈ [Instr.clk] ++ [.tick] ++ [] ++ [.clk] ++ [], i = .clk ∨ (i = .tick ∧ ready.timerRuns = true) :=
  ⟨ready_inv, by decide⟩

theorem witness_InvocationsWriteTheTableCyclically : Inv ready ∧ ready.hpc = 0#3 ∧ Instr.reset ∉ serviceOps ∧
    ∃ t, runOps serviceOps ready = .next t ∧ t.hpc = 0#3 := ⟨ready_inv, by decide, by decide, _, rfl, rfl⟩

/-- The second run differs in the counter and has a clock inside the handler. -/
theorem witness_WrittenSequenceIsDeterministic : Inv ready ∧ Inv { ready with ovf := false, cnt := 255 } ∧
    ready.idx = { ready with ovf := false, cnt := 255 }.idx ∧
    (∀ i, State.table ready i = State.table { ready with ovf := false, cnt := 255 } i) ∧
    Instr.reset ∉ serviceOps ∧ Instr.reset ∉ Instr.clk :: serviceOps ∧
    ∃ t₁ t₂, runOps serviceOps ready = .next t₁ ∧
      runOps (.clk :: serviceOps) { ready with ovf := false, cnt := 255 } = .next t₂ ∧ t₁.hpc = 0#3 ∧ t₂.hpc = 0#3 ∧
      t₁.ghost.nIsr - ready.ghost.nIsr = t₂.ghost.nIsr - ready.ghost.nIsr ∧
      t₁.ghost.wtrace = ready.ghost.wtrace ++ [128] ∧ t₂.ghost.wtrace = ready.ghost.wtrace ++ [128] :=
  ⟨ready_inv, quiet_inv, rfl, fun _ => rfl, by decide, by decide, _, _, rfl, rfl, rfl, rfl, rfl, by decide, by decide⟩

/-- One wrap that the deadline premise covers, then one invocation. -/
theorem witness_WrittenValuesReachThePinInOrder : Inv { ready with ovf := false, cnt := 255 } ∧
    State.live { ready with ovf := false, cnt := 255 } = true ∧
    (∀ i ∈ Instr.tick :: serviceOps, i = .idle ∨ i.issuer = .tmr ∨ i.issuer = .seq) ∧
    MeetsDeadline (.tick :: serviceOps) { ready with ovf := false, cnt := 255 } ∧
    ∃ t, runOps (.tick :: serviceOps) { ready with ovf := false, cnt := 255 } = .next t := by
  refine ⟨quiet_inv, by decide, by decide, ?_, _, rfl⟩
  simp only [serviceOps, MeetsDeadline]
  refine ⟨fun _ _ => by decide, fun _ _ => ?_⟩
  simp [wrapsAt]

theorem witness_CriticalSectionHoldsTheHandler : (running 1#3 0#10 255).hpc = 0#3 ∧ (running 1#3 0#10 255).ctrl.gie = false ∧
    Instr.reset ∉ [Instr.tick, .install] ∧ Instr.setgie true ∉ [Instr.tick, .install] ∧
    ∃ t, runOps [.tick, .install] (running 1#3 0#10 255) = .next t := ⟨rfl, rfl, by decide, by decide, _, rfl⟩

theorem witness_InvocationsDoNotNest : Inv (inService 2#3) ∧ (inService 2#3).hpc ≠ 0#3 ∧
    Instr.reset ∉ [Instr.wrcmp, .tick] ∧ Instr.iret ∉ [Instr.wrcmp, .tick] ∧
    ∃ t, runOps [.wrcmp, .tick] (inService 2#3) = .next t := ⟨inService_inv, by decide, by decide, by decide, _, rfl⟩

/-- The statement's hypotheses: a factor with its code, a completed setup, an unfinished one before a `RESET`, and
loads that the contract takes and refuses. -/
theorem witness_CanonicalSetupIsWellFormed : pscode 1024 = some 7#3 ∧ (1024 ∈ prescalerFactors ∧ Instr.reset ∉ [Instr.clk]) ∧
    (checkOps 1 .start [.setgie false, .pinout]).toOption.isSome = true ∧
    (readLines 8 [(none, 0x1000#16)]).toOption = some [.setgie false] ∧
    (checkOps 1 .start [.setgie false]).toOption.isSome = true ∧
    (readLines 8 [(none, 0x2001#16)]).toOption = some [.setmode true] ∧
    checkOps 1 .start [.setmode true] = .error .illFormedSetup := by decide

/-- Setup for `PRESCALER = 1` with a clock in between; it serves the two statements on completed setups. -/
theorem witness_CompletedSetupIsLive :
    (∀ i ∈ [Instr.setgie false, .setmode true, .setps 1#3, .clk, .pinout, .install, .setgie true], i.issuer = .fg ∨ i = .clk) ∧
    ∃ q, checkOps Config.initial.prescaler .start
        [.setgie false, .setmode true, .setps 1#3, .clk, .pinout, .install, .setgie true] = .ok q ∧ q.complete = true :=
  ⟨by decide, _, rfl, rfl⟩

theorem witness_ForegroundWritesAfterSetupAreRefused : Instr.issuer (.wrcmpb 5#12) = .fg ∧ Instr.wrcmpb 5#12 ≠ .idle ∧
    ready.hpc = 0#3 ∧
    readLines State.reset.cfg.regBits ([0x1000#16, 0x2001#16, 0x3001#16, 0x4000#16, 0x5000#16, 0x1001#16, 0x6005#16].map (none, ·)) =
      .ok ([.setgie false, .setmode true, .setps 1#3, .pinout, .install, .setgie true] ++ .wrcmpb 5#12 :: []) := by decide

/-- The widths at their bounds: `TIMER_BITS` 1 and 12 and `IDXW = IDX_BITS + 1` are built with a table; `TIMER_BITS` 13,
`IDXW = IDX_BITS`, and 12 bits without a table are not. -/
theorem witness_OnlySupportedConfigurationsAreBuilt_bounds :
    (after (build { Config.initial with timerBits := 1 } (some (List.replicate 256 1))) (fun _ => ())).isSome = true ∧
    (after (build { Config.initial with timerBits := 12 } (some (List.replicate 256 4095))) (fun _ => ())).isSome = true ∧
    (after (build { Config.initial with idxw := 9 } none) (fun _ => ())).isSome = true ∧
    refusalOf (build { Config.initial with timerBits := 13 } (some (List.replicate 256 1))) = some .badConfiguration ∧
    refusalOf (build { Config.initial with idxw := 8 } none) = some .badConfiguration ∧
    refusalOf (build { Config.initial with timerBits := 12 } none) = some .badConfiguration := by decide +kernel

theorem witness_OnlySupportedConfigurationsAreBuilt : ¬ ∃ s, build (sized 384) none = .next s := by
  rintro ⟨s, h⟩
  have : build (sized 384) none = .refused .badConfiguration := rfl
  rw [this] at h
  cases h

theorem witness_ProgrammedTableReadsBack :
    (∃ rom, romOf Config.initial (some (List.replicate 256 7)) = some rom) ∧ romOf Config.initial none = some [] ∧
    (∃ s, build Config.initial none = .next s) ∧ 255 < Config.initial.n ∧ Config.initial.n ≤ 256 :=
  ⟨Option.isSome_iff_exists.mp (by decide +kernel), by decide +kernel,
    ⟨_, build_eq_next.mpr ⟨by decide, [], by decide +kernel, rfl⟩⟩, by decide, by decide⟩

/-- A machine is built without a table and with one. -/
theorem witness_OnlySupportedConfigurationsAreBuilt_machine : (∃ s, build Config.initial none = .next s) ∧
    ∃ s, build Config.initial (some (List.replicate 256 7)) = .next s := by
  obtain ⟨rom, h⟩ := witness_ProgrammedTableReadsBack.1
  exact ⟨witness_ProgrammedTableReadsBack.2.2.1, _, build_eq_next.mpr ⟨by decide, rom, h, rfl⟩⟩

theorem witness_TableWritesAreLocal : Memory.wf Config.initial [(3, 7)] = true ∧ 255 < Config.initial.n ∧ 254 ≠ 255 := by decide

theorem witness_RomFormIsCanonical : Memory.wf Config.initial [(3, 7)] = true ∧
    ∀ i, Memory.read Config.initial [(3, 7)] i = Memory.read Config.initial [(3, 7)] i := ⟨by decide, fun _ => rfl⟩

theorem witness_InvariantHoldsInEveryBuiltMachine : ∃ s, build Config.initial (some (List.replicate 256 7)) = .next s := by
  have h : (after (build Config.initial (some (List.replicate 256 7))) (fun _ => ())).isSome = true := by decide +kernel
  cases hb : build Config.initial (some (List.replicate 256 7)) with
  | next s => exact ⟨s, rfl⟩
  | fault r => rw [hb] at h; cases h
  | refused r => rw [hb] at h; cases h

theorem witness_EveryStepKeepsTheInvariant : Inv (ready.place (some .seq, 0xA000#16)) ∧
    ∃ t, step (ready.place (some .seq, 0xA000#16)) = .next t := by
  refine ⟨?_, _, rfl⟩
  obtain ⟨a, b, c, d, e, f, g, h, i, j, k, l⟩ := ready_inv
  exact ⟨a, b, c, d, e, f, g, h, i, j, k, l⟩

theorem witness_BookkeepingIsNotObserved : (∃ t, exec .tick ready = .next t) ∧
    (∃ r, exec .wrcmp { inService 2#3 with w0 := 256 } = .fault r) ∧ ∃ r, exec .tick State.reset = .refused r :=
  ⟨⟨_, rfl⟩, ⟨_, rfl⟩, _, rfl⟩

theorem witness_PseudoInstructionsExpand : pscode 8 = some 2#3 ∧ 16 ∉ prescalerFactors := by decide

theorem witness_PeriodAndFrequencyLaws : configOk Config.initial = true ∧ timingOk ⟨16000000, 1⟩ = true ∧
    { Config.initial with prescaler := 1024 }.prescaler = 1024 ∧ Config.initial.timerBits = 8 :=
  ⟨by decide, by simp [timingOk], rfl, rfl⟩

end Sys2Proof.Tests
end

section
/-! The reset operation: what clearing the registers leaves, and the statement about `RESET` (R200, R201). -/

namespace Sys2Proof.Machine

/-- R35: an output that is not enabled is not driven, whatever the timer does. -/
theorem State.pin_of_poe_false {s : State} (h : s.ctrl.poe = false) : s.pin = .z := if_pos h

@[simp] theorem State.clearRegisters_pin (s : State) : s.clearRegisters.pin = .z :=
  State.pin_of_poe_false (by simp [Ctrl.zero])

/-- Clearing names no element but the registers: the parameters, the ROM, the bookkeeping and the schedule stay. -/
theorem State.clearRegisters_eq (s : State) :
    s.clearRegisters =
      { s with idx := 0, w0 := 0, cmpb := 0, cmpa := 0, cnt := 0, div := 0#10, ctrl := Ctrl.zero,
               hpc := 0#3, ovf := false } := rfl

/-- R201: the registers are clear after power-on. -/
@[simp] theorem State.clearRegisters_powerOn (c : Config) (rom : Memory) :
    (State.powerOn c rom).clearRegisters = State.powerOn c rom := rfl

/-- Settles O15: `RESET` has no guard and clears the registers, so each clause is a fact about `clearRegisters`. -/
theorem resetClearsEveryRegister : Obligations.ResetClearsEveryRegister := by
  refine ⟨by decide, fun s => ?anyState, fun c rom => ?powerOn⟩
  case anyState =>
    exact ⟨s.clearRegisters, execReset_next.mpr rfl, s.clearRegisters_eq, s.clearRegisters_pin⟩
  case powerOn => exact execReset_next.mpr (State.clearRegisters_powerOn c rom)

end Sys2Proof.Machine
end

section
/-! The operation word: the facts about its two fields, about the operand field of each format and about the rows of
the opcode map, and the statements about decoding and encoding (R81 to R87, R94). -/

namespace Sys2Proof

/-! ## Fields of a word -/

@[simp] theorem opcField_append (o : BitVec 4) (a : BitVec 12) : opcField (o ++ a) = o :=
  BitVec.extractLsb'_append_eq_left

@[simp] theorem argField_append (o : BitVec 4) (a : BitVec 12) : argField (o ++ a) = a :=
  BitVec.extractLsb'_append_eq_right

/-- R81: a word is its code and its operand field. -/
theorem opcField_append_argField (w : OpWord) : opcField w ++ argField w = w :=
  (BitVec.extractLsb'_append_extractLsb'_eq_extractLsb' rfl).trans BitVec.extractLsb'_eq_self

theorem argField_getLsbD (w : OpWord) (k : Nat) : (argField w).getLsbD k = (decide (k < 12) && w.getLsbD k) := by
  simp [argField]

@[simp] theorem opcField_encode (i : Instr) : opcField (encode i) = i.opcode := opcField_append _ _

@[simp] theorem argField_encode (i : Instr) : argField (encode i) = i.argument := argField_append _ _

/-- A value fits in `b` bits exactly when no bit from `b` on is set. -/
theorem toNat_lt_two_pow_iff {n : Nat} (x : BitVec n) (b : Nat) :
    x.toNat < 2 ^ b ↔ ∀ k, b ≤ k → x.getLsbD k = false := by
  constructor
  · intro h k hk
    exact Nat.testBit_lt_two_pow (h.trans_le (Nat.pow_le_pow_right (by decide) hk))
  · exact Nat.lt_pow_two_of_testBit _

theorem argField_ofNat (x : Nat) : argField (BitVec.ofNat 16 x) = BitVec.ofNat 12 x := by
  rw [argField, ← BitVec.setWidth_eq_extractLsb' (by decide), BitVec.setWidth_ofNat_of_le (by decide)]

/-- The bits of `2 ^ b - 1` are the low `b`. -/
theorem ofNat_two_pow_sub_one_getLsbD (n b k : Nat) :
    (BitVec.ofNat n (2 ^ b - 1)).getLsbD k = (decide (k < n) && decide (k < b)) := by
  rw [BitVec.getLsbD_ofNat, Nat.testBit_two_pow_sub_one]

/-! ## Must-be-zero bits -/

theorem mustBeZeroHolds_iff {regBits : Nat} {w : OpWord} :
    mustBeZeroHolds regBits w = true ↔ (argField w).toNat < 2 ^ (formatOf (opcField w)).argBits regBits :=
  decide_eq_true_iff

/-- The negation names the bit of `ARG` that stands where none may (R81). -/
theorem mustBeZeroHolds_eq_false_iff {regBits : Nat} {w : OpWord} :
    mustBeZeroHolds regBits w = false ↔
      ∃ k, (formatOf (opcField w)).argBits regBits ≤ k ∧ k < 12 ∧ w.getLsbD k = true := by
  rw [← Bool.not_eq_true, mustBeZeroHolds_iff, toNat_lt_two_pow_iff]
  simp [argField_getLsbD]

theorem decode_eq_illegal_iff {regBits : Nat} {w : OpWord} :
    decode regBits w = .error .illegal ↔ mustBeZeroHolds regBits w = false := by
  unfold decode
  cases mustBeZeroHolds regBits w <;> simp

theorem decode_eq_ok_iff {regBits : Nat} {w : OpWord} {i : Instr} :
    decode regBits w = .ok i ↔
      mustBeZeroHolds regBits w = true ∧ assembleInstr (opcField w) (argField w) = i := by
  unfold decode
  cases mustBeZeroHolds regBits w <;> simp

/-! ## Operations and their fields -/

/-- R85: all sixteen codes are assigned. -/
theorem exists_opcode_eq (o : BitVec 4) : ∃ i : Instr, i.opcode = o :=
  ⟨assembleInstr o 0#12, by revert o; decide⟩

@[simp] theorem assembleInstr_opcode (o : BitVec 4) (a : BitVec 12) : (assembleInstr o a).opcode = o := by
  obtain ⟨i, rfl⟩ := exists_opcode_eq o
  cases i <;> rfl

/-- What an operand field holds again when the operand that a format takes from it is written back (R81, R82). -/
def Format.operandField : Format → BitVec 12 → BitVec 12
  | .z, _ => 0#12
  | .b, a => (BitVec.ofBool (operandB a)).setWidth 12
  | .p, a => (operandP a).setWidth 12
  | .v, a => a

theorem assembleInstr_argument (o : BitVec 4) (a : BitVec 12) :
    (assembleInstr o a).argument = (formatOf o).operandField a := by
  obtain ⟨i, rfl⟩ := exists_opcode_eq o
  cases i <;> rfl

/-- A format takes the whole of an operand field whose must-be-zero bits are zero. -/
theorem Format.operandField_of_lt {f : Format} {regBits : Nat} {a : BitVec 12}
    (h : a.toNat < 2 ^ f.argBits regBits) : f.operandField a = a := by
  have high := (toNat_lt_two_pow_iff a _).mp h
  cases f with
  | z => exact (BitVec.eq_of_toNat_eq (Nat.lt_one_iff.mp h)).symm
  | b =>
    apply BitVec.eq_of_getLsbD_eq
    rintro (_ | k) hk
    · simp [operandField, operandB]
    · simp [operandField, high (k + 1) (by simp [Format.argBits])]
  | p =>
    apply BitVec.eq_of_getLsbD_eq
    intro k hk
    by_cases hk3 : k < 3
    · simp [operandField, operandP, hk, hk3]
    · simp [operandField, operandP, hk3, high k (Nat.le_of_not_lt hk3)]
  | v => rfl

theorem operandB_setWidth (b : Bool) : operandB ((BitVec.ofBool b).setWidth 12) = b := by cases b <;> rfl

theorem operandP_setWidth (c : BitVec 3) : operandP (c.setWidth 12) = c := by revert c; decide

/-- An operation's fields determine it. -/
@[simp] theorem assembleInstr_opcode_argument (i : Instr) : assembleInstr i.opcode i.argument = i := by
  cases i with
  | setgie b => exact congrArg Instr.setgie (operandB_setWidth b)
  | setmode b => exact congrArg Instr.setmode (operandB_setWidth b)
  | setps c => exact congrArg Instr.setps (operandP_setWidth c)
  | _ => rfl

theorem setWidth_ofBool_toNat_lt (b : Bool) : ((BitVec.ofBool b).setWidth 12).toNat < 2 ^ 1 := by cases b <;> decide

theorem setWidth_toNat_lt (c : BitVec 3) : (c.setWidth 12).toNat < 2 ^ 3 := by revert c; decide

/-- An operand is in range exactly when its field has no bit above those of its format (R81, R82). -/
theorem Instr.wf_iff {regBits : Nat} (i : Instr) :
    i.wf regBits = true ↔ i.argument.toNat < 2 ^ (formatOf i.opcode).argBits regBits := by
  cases i with
  | wrcmpb v => exact decide_eq_true_iff
  | setgie b => exact iff_of_true rfl (setWidth_ofBool_toNat_lt b)
  | setmode b => exact iff_of_true rfl (setWidth_ofBool_toNat_lt b)
  | setps c => exact iff_of_true rfl (setWidth_toNat_lt c)
  | _ => exact iff_of_true rfl Nat.one_pos

/-! ## Decoding and encoding -/

/-- R87 in one line: the words read as `i` are the encoding of an in-range `i`. -/
theorem decode_eq_ok_iff_encode {regBits : Nat} {w : OpWord} {i : Instr} :
    decode regBits w = .ok i ↔ i.wf regBits = true ∧ encode i = w := by
  rw [decode_eq_ok_iff, Instr.wf_iff]
  constructor
  · rintro ⟨hmbz, rfl⟩
    have hlt := mustBeZeroHolds_iff.mp hmbz
    have harg : (assembleInstr (opcField w) (argField w)).argument = argField w := by
      rw [assembleInstr_argument, Format.operandField_of_lt hlt]
    rw [encode, assembleInstr_opcode, harg]
    exact ⟨hlt, opcField_append_argField w⟩
  · rintro ⟨hlt, rfl⟩
    simpa [mustBeZeroHolds_iff] using hlt

theorem decode_encode {regBits : Nat} {i : Instr} (h : i.wf regBits = true) :
    decode regBits (encode i) = .ok i :=
  decode_eq_ok_iff_encode.mpr ⟨h, rfl⟩

/-- Settles O1: an illegal word is one with a must-be-zero bit set, and a legal word is the encoding of what it reads
as, whose code is then its `OPC`. -/
theorem decodeAndEncodeAgree : Obligations.DecodeAndEncodeAgree := by
  refine fun regBits => ⟨fun w => ?illegal, fun w i hdecode => ?read, fun i => ?roundTrip⟩
  case illegal => exact decode_eq_illegal_iff.trans mustBeZeroHolds_eq_false_iff
  case read =>
    obtain ⟨hwf, rfl⟩ := decode_eq_ok_iff_encode.mp hdecode
    exact ⟨(opcField_encode i).symm, hwf, rfl⟩
  case roundTrip => exact decode_encode

/-- Settles O3: the printed words are the encodings of operations in range, so they are read back; each of the other
five has a must-be-zero bit set. -/
theorem workedEncodingsReadAsStated : Obligations.WorkedEncodingsReadAsStated := by
  refine ⟨fun p hp => ?worked, fun w hw => ?illegal⟩
  case worked =>
    have hencode : p.1.wf 8 = true ∧ encode p.1 = p.2 := by revert p; decide
    exact ⟨hencode.2, decode_eq_ok_iff_encode.mpr hencode⟩
  case illegal =>
    have hmbz : mustBeZeroHolds 8 w = false := by fin_cases hw <;> rfl
    exact decode_eq_illegal_iff.mpr hmbz

/-! ## Rows of the opcode map -/

/-- A code has one row. -/
theorem opcodeMap_eq_of_opc {r₁ r₂ : OpRow} (h₁ : r₁ ∈ opcodeMap) (h₂ : r₂ ∈ opcodeMap) (h : r₁.opc = r₂.opc) :
    r₁ = r₂ :=
  List.inj_on_of_nodup_map (f := OpRow.opc) (by decide) h₁ h₂ h

theorem formatOf_opc {r : OpRow} (h : r ∈ opcodeMap) : formatOf r.opc = r.format := by
  revert r; decide

/-- Every operation has a row with its code and its agent. -/
theorem exists_row (i : Instr) : ∃ r ∈ opcodeMap, r.opc = i.opcode ∧ r.agent = i.issuer := by
  cases i <;> simp [opcodeMap, Instr.opcode, Instr.issuer]

theorem issuer_eq_agent {r : OpRow} {i : Instr} (hr : r ∈ opcodeMap) (h : i.opcode = r.opc) : i.issuer = r.agent := by
  obtain ⟨r', hr', hopc, hagent⟩ := exists_row i
  rw [← hagent, opcodeMap_eq_of_opc hr' hr (hopc.trans h)]

/-- A mask by its two fields: all of `OPC`, and what the format leaves of `ARG`. -/
theorem OpRow.maskWord_eq_append (regBits : Nat) (r : OpRow) :
    r.maskWord regBits = BitVec.allOnes 4 ++ ~~~(BitVec.ofNat 12 (2 ^ r.format.argBits regBits - 1)) := by
  have hopc : 0xF000#16 = BitVec.allOnes 4 ++ 0#12 := by decide
  have harg : 0x0FFF#16 = 0#4 ++ BitVec.allOnes 12 := by decide
  rw [maskWord, hopc, harg, ← opcField_append_argField (BitVec.ofNat 16 _), BitVec.not_append, BitVec.and_append,
    BitVec.or_append, argField_ofNat, BitVec.zero_and, BitVec.or_zero, BitVec.zero_or, BitVec.allOnes_and]

/-- Masking out the low `b` bits leaves nothing exactly when the value fits in them. -/
theorem and_not_low_eq_zero_iff (a : BitVec 12) (b : Nat) :
    a &&& ~~~(BitVec.ofNat 12 (2 ^ b - 1)) = 0#12 ↔ a.toNat < 2 ^ b := by
  have hbit (k : Nat) : (a &&& ~~~(BitVec.ofNat 12 (2 ^ b - 1))).getLsbD k = (a.getLsbD k && decide (b ≤ k)) := by
    rw [BitVec.getLsbD_and, BitVec.getLsbD_not, ofNat_two_pow_sub_one_getLsbD]
    by_cases hk : k < 12
    · simp [hk, ← decide_not]
    · simp [BitVec.getLsbD_of_ge a k (Nat.le_of_not_lt hk)]
  rw [toNat_lt_two_pow_iff]
  constructor
  · intro h k hk
    simpa [h, hk] using (hbit k).symm
  · intro h
    apply BitVec.eq_of_getLsbD_eq
    intro k _
    rw [hbit]
    by_cases hk : b ≤ k
    · simp [h k hk]
    · simp [hk]

/-- R83: a word spells a row's operation when it has the row's code and nothing above the bits of the row's format. -/
theorem OpRow.spells_iff {regBits : Nat} {r : OpRow} {w : OpWord} :
    r.spells regBits w = true ↔ opcField w = r.opc ∧ (argField w).toNat < 2 ^ r.format.argBits regBits := by
  rw [← and_not_low_eq_zero_iff, spells, beq_iff_eq, maskWord_eq_append, matchWord]
  conv_lhs => rw [← opcField_append_argField w, BitVec.and_append, BitVec.and_allOnes]
  constructor
  · intro h
    exact ⟨by simpa using congrArg opcField h, by simpa using congrArg argField h⟩
  · rintro ⟨hopc, harg⟩
    rw [hopc, harg]

/-- A row is spelt by the words that are read as an operation with its code. -/
theorem spells_iff_decode {regBits : Nat} {r : OpRow} (hr : r ∈ opcodeMap) (w : OpWord) :
    r.spells regBits w = true ↔ ∃ i, decode regBits w = .ok i ∧ i.opcode = r.opc := by
  rw [OpRow.spells_iff, ← formatOf_opc hr]
  constructor
  · rintro ⟨hopc, harg⟩
    rw [← hopc] at harg ⊢
    exact ⟨_, decode_eq_ok_iff.mpr ⟨mustBeZeroHolds_iff.mpr harg, rfl⟩, assembleInstr_opcode _ _⟩
  · rintro ⟨i, hdecode, hopc⟩
    obtain ⟨hwf, rfl⟩ := decode_eq_ok_iff_encode.mp hdecode
    rw [← hopc, opcField_encode, argField_encode]
    exact ⟨rfl, i.wf_iff.mp hwf⟩

/-- Settles O2: spelling is decoding to the row's code, the code gives the agent, and two rows differ in their code. -/
theorem rowsSpellTheirOperations : Obligations.RowsSpellTheirOperations := by
  refine ⟨by decide, fun regBits _ r _ hv => ?mask, fun regBits _ w => ⟨fun r hr => ?spells, ?disjoint⟩⟩
  case mask => rw [OpRow.maskWord, hv, Format.argBits]
  case spells =>
    rw [spells_iff_decode hr]
    refine exists_congr fun i => and_congr_right fun _ => ?_
    exact ⟨fun hopc => ⟨hopc, issuer_eq_agent hr hopc⟩, And.left⟩
  case disjoint =>
    intro r₁ h₁ r₂ h₂ hs₁ hs₂
    have hopc₁ := (OpRow.spells_iff.mp hs₁).1
    have hopc₂ := (OpRow.spells_iff.mp hs₂).1
    exact opcodeMap_eq_of_opc h₁ h₂ (hopc₁.symm.trans hopc₂)

end Sys2Proof
end

section
/-! The pseudo-instructions: when they expand, and the words they expand to (R89). -/

namespace Sys2Proof.Machine

/-- R28: a number that is no factor has no code. -/
theorem pscode_eq_none {p : Nat} (h : p ∉ prescalerFactors) : pscode p = none := by
  unfold pscode
  split
  case h_8 => rfl
  all_goals exact absurd (by decide) h

theorem expandPseudo_configure (c : Config) (p : Nat) (m : Bool) :
    expandPseudo c (.configure p m) = (pscode p).map fun code => [.setmode m, .setps code] := by
  cases h : pscode p <;> simp [expandPseudo, h]

theorem expandPseudo_setup (c : Config) (p : Nat) :
    expandPseudo c (.setup p) = (pscode p).map fun code =>
      [.setgie false, .setmode true, .setps code, .pinout, .install, .setgie true] := by
  cases h : pscode p <;> simp [expandPseudo, h]

theorem encode_setmode (m : Bool) : encode (.setmode m) = if m then 0x2001#16 else 0x2000#16 := by
  cases m <;> rfl

theorem encode_setps (code : BitVec 3) : encode (.setps code) = 0x3000#16 + code.setWidth 16 := by
  revert code; decide

/-- Settles O59: the fixed expansions are the printed words, the repeated ones repeat one word, and `CONFIGURE` and
`SETUP` expand exactly where their factor has a code. -/
theorem pseudoInstructionsExpand : Obligations.PseudoInstructionsExpand := by
  refine fun c => ⟨rfl, rfl, rfl, rfl, ?period, ?cperiod, fun p m code hcode => ?factor, fun p m hp => ?noFactor⟩
  case period => exact congrArg some List.map_replicate
  case cperiod => exact congrArg some List.map_replicate
  case factor =>
    rw [expandPseudo_configure, expandPseudo_setup, hcode, ← encode_setmode, ← encode_setps]
    exact ⟨rfl, rfl⟩
  case noFactor =>
    rw [expandPseudo_configure, expandPseudo_setup, pscode_eq_none hp]
    exact ⟨rfl, rfl⟩

end Sys2Proof.Machine
end

section
/-! The words of the operations with an operand, and the operands without a word (R81, R82, R86). -/

namespace Sys2Proof

/-- A word is the sum of its two fields: they share no bit. -/
theorem append_eq_add_setWidth (o : BitVec 4) (a : BitVec 12) : o ++ a = (o ++ 0#12) + a.setWidth 16 := by
  have hwide : a.setWidth 16 = 0#4 ++ a := BitVec.setWidth_eq_append (by decide)
  have hdisjoint : (o ++ 0#12) &&& (0#4 ++ a) = 0#16 := by
    rw [BitVec.and_append, BitVec.and_zero, BitVec.zero_and, BitVec.zero_append_zero]
  rw [hwide, BitVec.add_eq_or_of_and_eq_zero _ _ hdisjoint, BitVec.or_append, BitVec.or_zero, BitVec.zero_or]

theorem encode_wrcmpb (v : BitVec 12) : encode (.wrcmpb v) = 0x6000#16 + v.setWidth 16 :=
  append_eq_add_setWidth 0x6#4 v

/-- R86: the encoding of an operand out of range is an illegal word. -/
theorem decode_encode_eq_illegal_iff {regBits : Nat} {i : Instr} :
    decode regBits (encode i) = .error .illegal ↔ i.wf regBits = false := by
  rw [decode_eq_illegal_iff, ← Bool.not_eq_true, ← Bool.not_eq_true, mustBeZeroHolds_iff, Instr.wf_iff,
    opcField_encode, argField_encode]

/-- R9: a value fits the compare registers exactly when it does not exceed `REG_MAX`. -/
theorem Config.le_regMax_iff {c : Config} {v : Nat} : v ≤ c.regMax ↔ v < 2 ^ c.regBits :=
  Nat.le_sub_one_iff_lt (Nat.two_pow_pos _)

theorem Instr.wf_wrcmpb_eq_false_iff {c : Config} {v : BitVec 12} :
    Instr.wf c.regBits (.wrcmpb v) = false ↔ c.regMax < v.toNat := by
  rw [← not_le, Config.le_regMax_iff]
  exact decide_eq_false_iff_not

end Sys2Proof
end

section
/-! Guards: an operation whose guard is false has no step (R15), and the guard of the foreground (R100). -/

namespace Sys2Proof.Machine

/-- Every operation but `WRCMP`, whose table read can stop as well, is one state issued under its guard. -/
theorem exec_eq_issue {i : Instr} (hi : i ≠ .wrcmp) (s : State) : ∃ t, exec i s = issue (guardOf i s) t := by
  cases i with
  | wrcmp => exact absurd rfl hi
  | _ => exact ⟨_, rfl⟩

theorem exec_of_guardOf_false {i : Instr} {s : State} (h : guardOf i s = false) :
    exec i s = .refused .guardFalse := by
  by_cases hi : i = .wrcmp
  · subst hi
    exact if_neg (Bool.eq_false_iff.mp h)
  · obtain ⟨t, ht⟩ := exec_eq_issue hi s
    rw [ht, h, issue_false]

theorem guardOf_of_issuer_fg {i : Instr} (hi : i.issuer = .fg) (s : State) : guardOf i s = s.fgFree := by
  cases i with
  | idle | setgie | setmode | setps | pinout | install | wrcmpb => rfl
  | _ => nomatch hi

/-- R100: the foreground is held while SEQ is in service. -/
theorem exec_fg_in_service {i : Instr} {s : State} (hi : i.issuer = .fg) (h : s.hpc ≠ 0#3) :
    exec i s = .refused .guardFalse := by
  apply exec_of_guardOf_false
  rw [guardOf_of_issuer_fg hi]
  exact beq_false_of_ne h

/-- R173: no handler starts while the global enable is 0. -/
theorem execIenter_of_gie_false {s : State} (h : s.ctrl.gie = false) : exec .ienter s = .refused .guardFalse :=
  exec_of_guardOf_false (i := .ienter) (by rw [guardOf, State.canEnter, h, Bool.and_false])

end Sys2Proof.Machine
end

section
/-! The control register: what each operation makes of it, and its two bits that only `RESET` clears (R105, R106). -/

namespace Sys2Proof.Machine

@[simp] theorem State.tickEffect_ctrl (s : State) : s.tickEffect.ctrl = s.ctrl := by
  obtain ⟨-, h⟩ | ⟨-, h⟩ := s.tickEffect_cases <;> rw [h]
  · exact s.wrap_ctrl
  · exact s.setCnt_ctrl _

@[simp] theorem State.clockEffect_ctrl (s : State) : s.clockEffect.ctrl = s.ctrl := by
  obtain ⟨-, h⟩ | ⟨-, -, h⟩ | ⟨-, -, h⟩ := s.clockEffect_cases <;> rw [h]
  exact State.tickEffect_ctrl _

/-- What an operation makes of `CTRL`: the write column of `CTRL` in the access matrix (R36). -/
def ctrlAfter (i : Instr) (r : Ctrl) : Ctrl :=
  match i with
  | .setgie b => { r with gie := b }
  | .setmode b => { r with mode := b }
  | .setps c => { r with ps := c }
  | .pinout => { r with poe := true }
  | .install => { r with ovie := true }
  | .reset => Ctrl.zero
  | .ienter => { r with gie := false }
  | .iret => { r with gie := true }
  | _ => r

theorem exec_next_ctrl {i : Instr} {s t : State} (h : exec i s = .next t) : t.ctrl = ctrlAfter i s.ctrl := by
  cases i with
  | idle => obtain ⟨-, rfl⟩ := execIdle_next.mp h; rfl
  | setgie b => obtain ⟨-, rfl⟩ := execSetgie_next.mp h; rfl
  | setmode b => obtain ⟨-, rfl⟩ := execSetmode_next.mp h; rfl
  | setps c => obtain ⟨-, rfl⟩ := execSetps_next.mp h; rfl
  | pinout => obtain ⟨-, rfl⟩ := execPinout_next.mp h; rfl
  | install => obtain ⟨-, rfl⟩ := execInstall_next.mp h; rfl
  | wrcmpb v => obtain ⟨-, rfl⟩ := execWrcmpb_next.mp h; rfl
  | reset => obtain rfl := execReset_next.mp h; rfl
  | clk => obtain rfl := execClk_next.mp h; exact s.clockEffect_ctrl
  | tick => obtain ⟨-, rfl⟩ := execTick_next.mp h; exact s.tickEffect_ctrl
  | ienter => obtain ⟨-, rfl⟩ := execIenter_next.mp h; rfl
  | ldidx => obtain ⟨-, rfl⟩ := execLdidx_next.mp h; rfl
  | wrcmp => obtain ⟨-, v, -, rfl⟩ := execWrcmp_next.mp h; rfl
  | incidx => obtain ⟨-, rfl⟩ := execIncidx_next.mp h; rfl
  | mskidx => obtain ⟨-, rfl⟩ := execMskidx_next.mp h; rfl
  | iret => obtain ⟨-, rfl⟩ := execIret_next.mp h; rfl

theorem ctrlAfter_poe {i : Instr} (hi : i ≠ .reset) {r : Ctrl} (h : r.poe = true) : (ctrlAfter i r).poe = true := by
  cases i with
  | pinout => rfl
  | reset => exact absurd rfl hi
  | _ => exact h

theorem ctrlAfter_ovie {i : Instr} (hi : i ≠ .reset) {r : Ctrl} (h : r.ovie = true) :
    (ctrlAfter i r).ovie = true := by
  cases i with
  | install => rfl
  | reset => exact absurd rfl hi
  | _ => exact h

end Sys2Proof.Machine
end

section
/-! The prescaler: when the timer runs, what a clock does then, and how many clocks make a tick (R28, R121, R122). -/

namespace Sys2Proof.Machine

theorem State.timerRuns_iff {s : State} : s.timerRuns = true ↔ s.ctrl.mode = true ∧ s.ctrl.ps ≠ 0#3 := by
  simp [State.timerRuns]

theorem State.timerRuns_of_mode_false {s : State} (h : s.ctrl.mode = false) : s.timerRuns = false := by
  rw [State.timerRuns, h, Bool.false_and]

/-- R28: code 0 stops the timer. -/
theorem State.timerRuns_of_ps_zero {s : State} (h : s.ctrl.ps = 0#3) : s.timerRuns = false := by
  simp [State.timerRuns, h]

theorem State.tickDue_iff {s : State} : s.tickDue = true ↔ s.div.toNat + 1 = presc s.ctrl.ps := beq_iff_eq

theorem State.clockEffect_of_stopped {s : State} (h : s.timerRuns = false) : s.clockEffect = s :=
  if_neg (Bool.eq_false_iff.mp h)

theorem State.clockEffect_of_not_due {s : State} (hruns : s.timerRuns = true)
    (hdue : s.div.toNat + 1 ≠ presc s.ctrl.ps) : s.clockEffect = { s with div := s.div + 1#10 } :=
  (if_pos hruns).trans (if_neg (mt State.tickDue_iff.mp hdue))

theorem State.clockEffect_of_due {s : State} (hruns : s.timerRuns = true)
    (hdue : s.div.toNat + 1 = presc s.ctrl.ps) : s.clockEffect = State.tickEffect { s with div := 0#10 } :=
  (if_pos hruns).trans (if_pos (State.tickDue_iff.mpr hdue))

/-- R28: a running code's factor is a number of clocks that `DIV` can count. -/
theorem presc_pos {c : BitVec 3} (h : c ≠ 0#3) : 0 < presc c := by revert c; decide

theorem presc_le (c : BitVec 3) : presc c ≤ 1024 := by revert c; decide

/-- Writing the value a divider has changes nothing. -/
theorem State.with_div_eq_self {s : State} {d : BitVec 10} (h : s.div = d) : { s with div := d } = s := by
  subst h; rfl

/-- A count below a factor stands in `DIV` as it is. -/
theorem toNat_ofNat_of_lt_presc {k : Nat} {c : BitVec 3} (h : k < presc c) : (BitVec.ofNat 10 k).toNat = k :=
  (BitVec.toNat_ofNat k 10).trans (Nat.mod_eq_of_lt (h.trans_le (presc_le c)))

/-- From a cleared divider, fewer clocks than the factor are only counted: induction on the clocks, where the next one
finds `DIV = k` and `k + 1` below the factor. -/
theorem runOps_clk_counts {s : State} (hruns : s.timerRuns = true) (hdiv : s.div = 0#10) (k : Nat)
    (hk : k < presc s.ctrl.ps) :
    runOps (List.replicate k .clk) s = .next { s with div := BitVec.ofNat 10 k } := by
  induction k with
  | zero => exact congrArg Host.Outcome.next (State.with_div_eq_self hdiv).symm
  | succ k ih =>
    have hk' : k < presc s.ctrl.ps := Nat.lt_of_succ_lt hk
    have hdue : (BitVec.ofNat 10 k).toNat + 1 ≠ presc s.ctrl.ps := by rw [toNat_ofNat_of_lt_presc hk']; exact hk.ne
    have hclock := State.clockEffect_of_not_due (s := { s with div := BitVec.ofNat 10 k }) hruns hdue
    rw [List.replicate_succ', runOps_append_next, BitVec.ofNat_add]
    exact ⟨_, ih hk', runOps_cons_next.mpr ⟨_, execClk_next.mpr hclock, rfl⟩⟩

/-- R127: from a cleared divider, as many clocks as the factor says are one tick. -/
theorem runOps_clk_presc {s : State} (hruns : s.timerRuns = true) (hdiv : s.div = 0#10) :
    runOps (List.replicate (presc s.ctrl.ps) .clk) s = .next s.tickEffect := by
  obtain ⟨k, hk⟩ := Nat.exists_eq_add_one.mpr (presc_pos (State.timerRuns_iff.mp hruns).2)
  have hlast : k < presc s.ctrl.ps := hk ▸ k.lt_add_one
  have hdue : (BitVec.ofNat 10 k).toNat + 1 = presc s.ctrl.ps := by rw [toNat_ofNat_of_lt_presc hlast, hk]
  have hclock := State.clockEffect_of_due (s := { s with div := BitVec.ofNat 10 k }) hruns hdue
  rw [State.with_div_eq_self hdiv] at hclock
  rw [hk, List.replicate_succ', runOps_append_next]
  exact ⟨_, runOps_clk_counts hruns hdiv k hlast, runOps_cons_next.mpr ⟨_, execClk_next.mpr hclock, rfl⟩⟩

end Sys2Proof.Machine
end

section
/-! The foreground's operations on the host port: the statements about each (R101 to R107), with what they need of the
pin (R35) and of the buffer (R23). -/

namespace Sys2Proof.Machine

/-- R35: the pin is driven exactly when the output is enabled. -/
theorem State.pin_eq_z_iff {s : State} : s.pin = .z ↔ s.ctrl.poe = false := by
  refine ⟨fun h => ?_, State.pin_of_poe_false⟩
  unfold State.pin at h
  split at h
  next hpoe => exact hpoe
  next => split_ifs at h

/-- R35: a driven pin is low in the mode without comparison. -/
theorem State.pin_of_mode_false {s : State} (hpoe : s.ctrl.poe = true) (hmode : s.ctrl.mode = false) :
    s.pin = .low := by
  simp [State.pin, hpoe, hmode]

/-- R23: a value in range is stored as it stands. -/
theorem State.setCmpb_of_le {s : State} {v : Nat} (h : v ≤ s.cfg.regMax) : s.setCmpb v = { s with cmpb := v } := by
  rw [State.setCmpb, trunc_of_lt (Config.le_regMax_iff.mp h)]

/-- Settles O10: after `SETPS c` the divider is clear, so with `MODE = 1` and a running code the next clocks are counted
up to the factor of `c`, and the last of them is the tick. -/
theorem setpsWritesTheCodeAndRestartsTheDivider : Obligations.SetpsWritesTheCodeAndRestartsTheDivider := by
  refine ⟨encode_setps, fun c s => ⟨fun h => ?effect, exec_fg_in_service rfl, fun t ht => ?stops,
    fun t ht hc hmode => ?firstTick⟩⟩
  case effect => exact execSetps_next.mpr ⟨h, rfl⟩
  case stops =>
    obtain ⟨-, rfl⟩ := execSetps_next.mp ht
    exact State.timerRuns_of_ps_zero rfl
  case firstTick =>
    obtain ⟨-, rfl⟩ := execSetps_next.mp ht
    have hruns : State.timerRuns { s with ctrl := { s.ctrl with ps := c }, div := 0#10 } = true :=
      State.timerRuns_iff.mpr ⟨hmode, hc⟩
    exact ⟨runOps_clk_counts hruns rfl, _, runOps_clk_presc hruns rfl, execTick_next.mpr ⟨hruns, rfl⟩⟩

/-- Settles O7: `IDLE` issues the state it is given. -/
theorem idleChangesNothing : Obligations.IdleChangesNothing :=
  ⟨by decide, fun _ => ⟨fun h => execIdle_next.mpr ⟨h, rfl⟩, exec_fg_in_service rfl⟩⟩

/-- Settles O8: `SETGIE 1` supplies the one conjunct of the guard of `IENTER` that a pending, installed event lacks. -/
theorem setgieWritesTheGlobalEnable : Obligations.SetgieWritesTheGlobalEnable := by
  refine ⟨by decide, by decide, fun b s => ⟨fun h => ?effect, exec_fg_in_service rfl, fun h hgie => ?same,
    fun h hovf hovie => ?enters⟩⟩
  case effect => exact execSetgie_next.mpr ⟨h, rfl⟩
  case same =>
    subst hgie
    exact execSetgie_next.mpr ⟨h, rfl⟩
  case enters =>
    exact ⟨_, _, execSetgie_next.mpr ⟨h, rfl⟩, execIenter_next.mpr ⟨⟨h, hovf, hovie, rfl⟩, rfl⟩⟩

/-- Settles O9: `MODE` alone decides whether a timer with a running code runs, and a stopped one ignores the clock. -/
theorem setmodeWritesTheMode : Obligations.SetmodeWritesTheMode := by
  refine ⟨by decide, by decide, fun b s => ⟨fun h => ?effect, exec_fg_in_service rfl, fun t ht => ?starts,
    fun t ht => ?stops⟩⟩
  case effect => exact execSetmode_next.mpr ⟨h, rfl⟩
  case starts =>
    obtain ⟨-, rfl⟩ := execSetmode_next.mp ht
    exact State.timerRuns_iff.trans (and_iff_right rfl)
  case stops =>
    obtain ⟨-, rfl⟩ := execSetmode_next.mp ht
    have hstopped := State.timerRuns_of_mode_false (s := { s with ctrl := { s.ctrl with mode := false } }) rfl
    exact ⟨hstopped, execClk_next.mpr (State.clockEffect_of_stopped hstopped),
      fun hpoe => State.pin_of_mode_false hpoe rfl⟩

/-- Settles O11: the pin is driven exactly when `POE` is 1, and `RESET` alone writes a 0 there. -/
theorem pinoutDrivesThePin : Obligations.PinoutDrivesThePin := by
  refine ⟨by decide, fun s => ⟨fun h => ?effect, exec_fg_in_service rfl, fun t ht => ?pin,
    fun i t hi hpoe ht => ?kept⟩⟩
  case effect => exact execPinout_next.mpr ⟨h, rfl⟩
  case pin =>
    have hpoe : t.ctrl.poe = true := congrArg Ctrl.poe (exec_next_ctrl ht)
    exact ⟨by simp [State.pin_eq_z_iff, hpoe], State.pin_of_mode_false hpoe⟩
  case kept =>
    rw [exec_next_ctrl ht]
    exact ctrlAfter_poe hi hpoe

/-- Settles O12: `INSTALL` leaves `GIE`, which holds the handler back, and `RESET` alone writes a 0 to `OVIE`. -/
theorem installEnablesTheOverflowEvent : Obligations.InstallEnablesTheOverflowEvent := by
  refine ⟨by decide, fun s => ⟨fun h => ?effect, exec_fg_in_service rfl, fun t hgie ht => ?heldBack,
    fun i t hi hovie ht => ?kept⟩⟩
  case effect => exact execInstall_next.mpr ⟨h, rfl⟩
  case heldBack => exact execIenter_of_gie_false ((congrArg Ctrl.gie (exec_next_ctrl ht)).trans hgie)
  case kept =>
    rw [exec_next_ctrl ht]
    exact ctrlAfter_ovie hi hovie

/-- Settles O13: a value up to `REG_MAX` fits the buffer and is kept whole; a larger one has a must-be-zero bit set. -/
theorem wrcmpbWritesTheBufferAlone : Obligations.WrcmpbWritesTheBufferAlone := by
  refine ⟨encode_wrcmpb, fun v s => ⟨fun h hv => ?effect, exec_fg_in_service rfl, fun hv => ?illegal⟩⟩
  case effect => exact execWrcmpb_next.mpr ⟨h, State.setCmpb_of_le hv⟩
  case illegal => exact decode_encode_eq_illegal_iff.mpr (Instr.wf_wrcmpb_eq_false_iff.mpr hv)

end Sys2Proof.Machine
end

section
/-! The timer's two operations: what a tick does below and at `TOP` (R25, R123, R124), and the statements about `CLK` and
`TICK` (R122, R123). -/

namespace Sys2Proof

/-- R25: a value fits the counter exactly when it does not exceed `TOP`. -/
theorem Config.le_top_iff {c : Config} {v : Nat} : v ≤ c.top ↔ v < 2 ^ c.timerBits :=
  Nat.le_sub_one_iff_lt (Nat.two_pow_pos _)

/-- R122: one more clock in `DIV`, as a number and as a word. -/
theorem ofNat_toNat_add_one (d : BitVec 10) : BitVec.ofNat 10 (d.toNat + 1) = d + 1#10 := by
  rw [BitVec.ofNat_add, BitVec.ofNat_toNat, BitVec.setWidth_eq]

end Sys2Proof

namespace Sys2Proof.Machine

theorem State.timerRuns_eq_false_iff {s : State} : s.timerRuns = false ↔ s.ctrl.mode = false ∨ s.ctrl.ps = 0#3 := by
  rw [← Bool.not_eq_true, State.timerRuns_iff, not_and_or, Bool.not_eq_true, not_not]

/-- R25: a count up to `TOP` is stored as it stands. -/
theorem State.setCnt_of_le_top {s : State} {v : Nat} (h : v ≤ s.cfg.top) : s.setCnt v = { s with cnt := v } := by
  rw [State.setCnt, trunc_of_lt (Config.le_top_iff.mp h)]

theorem State.atTop_iff {s : State} : s.atTop = true ↔ s.cnt = s.cfg.top := beq_iff_eq

/-- R123: the next count is at most `TOP`, so the counter's width takes nothing from it. -/
theorem State.tickEffect_of_lt_top {s : State} (h : s.cnt < s.cfg.top) :
    s.tickEffect = { s with cnt := s.cnt + 1 } := by
  have hbelow : s.atTop = false := Bool.eq_false_iff.mpr (mt State.atTop_iff.mp h.ne)
  rw [State.tickEffect_of_not_atTop hbelow, State.setCnt_of_le_top h]

/-- Settles O18: `CLK` issues `clockEffect`, whose branch is told by whether the timer runs and whether a tick is due. The
divider's wrap at 1023 agrees with the statement's count modulo `2 ^ 10`, so its bound on `DIV` is not needed. -/
theorem clkPrescalesTheClock : Obligations.ClkPrescalesTheClock := by
  refine ⟨by decide, fun s => ⟨fun h => ?stopped, fun hmode hps hdue => ?due, fun hmode hps hdue _ => ?counts⟩⟩
  case stopped => exact execClk_next.mpr (State.clockEffect_of_stopped (State.timerRuns_eq_false_iff.mpr h))
  case due =>
    have hruns := State.timerRuns_iff.mpr ⟨hmode, hps⟩
    exact ⟨_, execClk_next.mpr (State.clockEffect_of_due hruns hdue), execTick_next.mpr ⟨hruns, rfl⟩⟩
  case counts =>
    rw [ofNat_toNat_add_one]
    exact execClk_next.mpr (State.clockEffect_of_not_due (State.timerRuns_iff.mpr ⟨hmode, hps⟩) hdue)

/-- Settles O19: `TICK` issues `tickEffect` while the timer runs; below `TOP` that is the next count, at `TOP` the wrap. -/
theorem tickCountsAndWraps : Obligations.TickCountsAndWraps := by
  refine ⟨by decide, fun s => ⟨fun h => ?stopped, fun hmode hps hcnt => ?counts, fun hmode hps hcnt => ?wraps⟩⟩
  case stopped => exact exec_of_guardOf_false (i := .tick) (State.timerRuns_eq_false_iff.mpr h)
  case counts => exact execTick_next.mpr ⟨State.timerRuns_iff.mpr ⟨hmode, hps⟩, State.tickEffect_of_lt_top hcnt⟩
  case wraps =>
    have hwrap := State.tickEffect_of_atTop (State.atTop_iff.mpr hcnt)
    exact execTick_next.mpr ⟨State.timerRuns_iff.mpr ⟨hmode, hps⟩, hwrap⟩

end Sys2Proof.Machine
end

section
/-! The phase index and the sample table in a supported configuration: the mask, the storage width of the index (R21,
R145) and the sample at every index below `N` (R57, R58). -/

namespace Sys2Proof.Machine

/-- R6: a supported table length is `2 ^ IDX_BITS`. -/
theorem n_eq_two_pow_of_configOk {c : Config} (h : configOk c = true) : c.n = 2 ^ c.idxBits := by
  simp only [configOk, Bool.and_eq_true, List.contains_iff_mem, List.mem_cons, List.not_mem_nil, or_false] at h
  obtain ⟨⟨⟨⟨⟨hn, -⟩, -⟩, -⟩, -⟩, -⟩ := h
  unfold Config.idxBits
  rcases hn with hn | hn | hn <;> rw [hn] <;> decide

/-- R6: masking with `N - 1` is reduction modulo `N`. -/
theorem and_mask_of_configOk {c : Config} (h : configOk c = true) (i : Nat) : i &&& c.mask = i % c.n := by
  rw [Config.mask, n_eq_two_pow_of_configOk h, Nat.and_two_pow_sub_one_eq_mod]

/-- R21: the index has one bit more than `IDX_BITS`, so that `N` itself is stored whole. -/
theorem n_lt_two_pow_idxw_of_configOk {c : Config} (h : configOk c = true) : c.n < 2 ^ c.idxw := by
  have hwidth : c.idxBits + 1 ≤ c.idxw := by
    simp only [configOk, Bool.and_eq_true, decide_eq_true_eq] at h
    exact h.2
  exact Nat.lt_log2_self.trans_le (Nat.pow_le_pow_right Nat.two_pos hwidth)

/-- R144: from an index below `N` the increment loses nothing to the storage width. -/
theorem State.setIdx_succ_of_lt {s : State} (hc : configOk s.cfg = true) (h : s.idx < s.cfg.n) :
    s.setIdx (s.idx + 1) = { s with idx := s.idx + 1 } := by
  rw [State.setIdx, trunc_of_lt (Nat.lt_of_le_of_lt h (n_lt_two_pow_idxw_of_configOk hc))]

/-- R57, R58: a table that passes the check has a sample at every index below `N`, which fits the compare registers. -/
theorem State.exists_sample {s : State} (h : Memory.tableOk s.cfg s.rom = true) {i : Nat} (hi : i < s.cfg.n) :
    ∃ v, s.table i = some v ∧ v ≤ s.cfg.regMax := by
  have hread := List.all_eq_true.mp h i (List.mem_range.mpr hi)
  unfold State.table
  split at hread
  next v hv => exact ⟨v, hv, of_decide_eq_true hread⟩
  next => cases hread

/-- R143: a sample of `REG_BITS` bits goes to the buffer and to `WTRACE` unchanged. -/
theorem State.writeSample_of_le {s : State} {v : Nat} (h : v ≤ s.cfg.regMax) :
    s.writeSample v =
      { s with cmpb := v, hpc := 3#3, ghost := { s.ghost with wtrace := s.ghost.wtrace ++ [v] } } := by
  rw [State.writeSample, State.setCmpb_of_le h, trunc_of_lt (Config.le_regMax_iff.mp h)]

end Sys2Proof.Machine
end

section
/-! The sequencer's operations: the statements about each of the six (R141 to R146). -/

namespace Sys2Proof.Machine

/-- R54: the one fault of the machine. -/
theorem execWrcmp_of_n_le_w0 {s : State} (hpc : s.hpc = 2#3) (h : s.cfg.n ≤ s.w0) :
    exec .wrcmp s = .fault .tableIndexOutOfRange := by
  simp [exec, execWrcmp, hpc, h.not_gt]

/-- Settles O29: the guard of `IENTER` is the conjunction of the statement. -/
theorem ienterTakesTheInterrupt : Obligations.IenterTakesTheInterrupt := by
  refine ⟨by decide, fun s => ⟨fun h => execIenter_next.mpr ⟨h, rfl⟩, fun h => ?held⟩⟩
  case held =>
    apply exec_of_guardOf_false (i := .ienter)
    simpa [guardOf, State.canEnter, and_assoc] using h

/-- Settles O30: at `HPC = 1` the invariant bounds the index that is copied. -/
theorem ldidxReadsTheIndex : Obligations.LdidxReadsTheIndex := by
  refine ⟨by decide, fun s => ⟨fun h => execLdidx_next.mpr ⟨h, rfl⟩,
    fun h => exec_of_guardOf_false (i := .ldidx) (beq_false_of_ne h), fun t hinv ht => ?inRange⟩⟩
  case inRange =>
    obtain ⟨hpc, rfl⟩ := execLdidx_next.mp ht
    exact hinv.idxRange (by simp [hpc])

/-- Settles O31: a sample up to `REG_MAX` is stored as it stands; at `W0 >= N` there is none to read. -/
theorem wrcmpWritesTheSample : Obligations.WrcmpWritesTheSample := by
  refine ⟨by decide, fun s => ⟨fun v hpc hv hle => ?writes, execWrcmp_of_n_le_w0,
    fun h => exec_of_guardOf_false (i := .wrcmp) (beq_false_of_ne h)⟩⟩
  case writes => exact execWrcmp_next.mpr ⟨hpc, v, hv, State.writeSample_of_le hle⟩

/-- Settles O32: the index is stored in its width, which holds every value up to `N`. -/
theorem incidxIncrementsTheIndex : Obligations.IncidxIncrementsTheIndex := by
  refine ⟨by decide, fun s => ⟨fun h => execIncidx_next.mpr ⟨h, rfl⟩,
    fun h => exec_of_guardOf_false (i := .incidx) (beq_false_of_ne h), fun t hc hidx ht => ?whole⟩⟩
  case whole =>
    obtain ⟨-, rfl⟩ := execIncidx_next.mp ht
    exact congrArg State.idx (State.setIdx_succ_of_lt hc hidx)

/-- Settles O33: the mask is reduction modulo `N`. -/
theorem mskidxMasksTheIndex : Obligations.MskidxMasksTheIndex := by
  refine ⟨by decide, fun s => ⟨fun h => execMskidx_next.mpr ⟨h, rfl⟩,
    fun h => exec_of_guardOf_false (i := .mskidx) (beq_false_of_ne h), fun t hc ht => ?corners⟩⟩
  case corners =>
    obtain ⟨-, rfl⟩ := execMskidx_next.mp ht
    have hmod : s.idx &&& s.cfg.mask = s.idx % s.cfg.n := and_mask_of_configOk hc s.idx
    exact ⟨fun h => hmod.trans (Nat.mod_eq_of_lt h), fun h => hmod.trans (h ▸ Nat.mod_self _)⟩

/-- Settles O34: `IRET` supplies `HPC = 0` and `GIE = 1`, the conjuncts of the guard of `IENTER` that a pending event in
service lacks. -/
theorem iretReturnsFromTheInterrupt : Obligations.IretReturnsFromTheInterrupt := by
  refine ⟨by decide, fun s => ⟨fun h => execIret_next.mpr ⟨h, rfl⟩,
    fun h => exec_of_guardOf_false (i := .iret) (beq_false_of_ne h), fun h hovf hovie => ?again⟩⟩
  case again => exact ⟨_, _, execIret_next.mpr ⟨h, rfl⟩, execIenter_next.mpr ⟨⟨rfl, hovf, hovie, rfl⟩, rfl⟩⟩

end Sys2Proof.Machine
end

section
/-! What SEQ reads and writes, and the operations of the other agents, which leave it: the frame under any interleaving
(R147 to R149). -/

namespace Sys2Proof.Machine

/-- The elements that decide what SEQ does next and what it has done (R33, R39). -/
structure SeqView where
  cfg : Config
  rom : Memory
  idx : Nat
  w0 : Nat
  hpc : BitVec 3
  wtrace : List Nat
  nIsr : Nat

/-- SEQ's part of a state. -/
def State.seqView (s : State) : SeqView :=
  { cfg := s.cfg, rom := s.rom, idx := s.idx, w0 := s.w0, hpc := s.hpc, wtrace := s.ghost.wtrace, nIsr := s.ghost.nIsr }

/-- What the operations of TMR keep, and how the flag tells the wraps among them: `OVF` is 1 exactly if it was or a wrap
occurred. -/
structure TimerFrame (s t : State) : Prop where
  seqView : t.seqView = s.seqView
  cmpb : t.cmpb = s.cmpb
  ctrl : t.ctrl = s.ctrl
  nOvf : s.ghost.nOvf ≤ t.ghost.nOvf
  ovf : t.ovf = true ↔ s.ovf = true ∨ s.ghost.nOvf < t.ghost.nOvf

/-- Counting, in the counter or in the divider, raises no event. -/
theorem TimerFrame.counts (s : State) (cnt : Nat) (div : BitVec 10) :
    TimerFrame s { s with cnt := cnt, div := div } :=
  ⟨rfl, rfl, rfl, le_rfl, by simp⟩

theorem TimerFrame.refl (s : State) : TimerFrame s s := .counts s s.cnt s.div

theorem TimerFrame.trans {s t u : State} (h : TimerFrame s t) (k : TimerFrame t u) : TimerFrame s u where
  seqView := k.seqView.trans h.seqView
  cmpb := k.cmpb.trans h.cmpb
  ctrl := k.ctrl.trans h.ctrl
  nOvf := h.nOvf.trans k.nOvf
  ovf := by
    have hle := h.nOvf
    have kle := k.nOvf
    rw [k.ovf, h.ovf, or_assoc]
    exact or_congr_right (by omega)

theorem TimerFrame.timerRuns {s t : State} (h : TimerFrame s t) : t.timerRuns = s.timerRuns :=
  congrArg (fun r : Ctrl => r.mode && r.ps != 0#3) h.ctrl

/-- A wrap raises `OVF` and counts one event; any other tick writes the counter alone. -/
theorem State.tickEffect_timerFrame (s : State) : TimerFrame s s.tickEffect := by
  obtain ⟨-, h⟩ | ⟨-, h⟩ := s.tickEffect_cases <;> rw [h]
  · exact ⟨rfl, rfl, rfl, Nat.le_succ _, by simp⟩
  · exact .counts s _ s.div

theorem State.clockEffect_timerFrame (s : State) : TimerFrame s s.clockEffect := by
  obtain ⟨-, h⟩ | ⟨-, -, h⟩ | ⟨-, -, h⟩ := s.clockEffect_cases <;> rw [h]
  · exact TimerFrame.refl s
  · exact .counts s s.cnt _
  · exact (TimerFrame.counts s s.cnt 0#10).trans (State.tickEffect_timerFrame _)

/-- Operations of TMR that have a step: a `TICK` has one only while the timer runs (R121). -/
def TimerOps (runs : Bool) (ops : List Instr) : Prop := ∀ i ∈ ops, i = .clk ∨ (i = .tick ∧ runs = true)

/-- Such operations run to their end, since none of them stops the timer. -/
theorem TimerOps.run {ops : List Instr} {s : State} (h : TimerOps s.timerRuns ops) :
    ∃ t, runOps ops s = .next t ∧ TimerFrame s t := by
  induction ops generalizing s with
  | nil => exact ⟨s, rfl, TimerFrame.refl s⟩
  | cons i rest ih =>
    obtain ⟨hi, hrest⟩ := List.forall_mem_cons.mp h
    have hstep : ∃ u, exec i s = .next u ∧ TimerFrame s u := by
      obtain rfl | ⟨rfl, hruns⟩ := hi
      · exact ⟨_, execClk_next.mpr rfl, s.clockEffect_timerFrame⟩
      · exact ⟨_, execTick_next.mpr ⟨hruns, rfl⟩, s.tickEffect_timerFrame⟩
    obtain ⟨u, hu, hframe⟩ := hstep
    obtain ⟨t, ht, hframe'⟩ := ih (s := u) (hframe.timerRuns.symm ▸ hrest)
    exact ⟨t, runOps_cons_next.mpr ⟨u, hu, ht⟩, hframe.trans hframe'⟩

/-- With SEQ idle, an operation other than `RESET` either leaves SEQ's part of the state or is an `IENTER`. -/
theorem exec_of_idle {i : Instr} {s t : State} (hi : i ≠ .reset) (hpc : s.hpc = 0#3) (h : exec i s = .next t) :
    t.seqView = s.seqView ∨ t = s.enterInterrupt := by
  cases i with
  | idle => obtain ⟨-, rfl⟩ := execIdle_next.mp h; exact .inl rfl
  | setgie b => obtain ⟨-, rfl⟩ := execSetgie_next.mp h; exact .inl rfl
  | setmode b => obtain ⟨-, rfl⟩ := execSetmode_next.mp h; exact .inl rfl
  | setps c => obtain ⟨-, rfl⟩ := execSetps_next.mp h; exact .inl rfl
  | pinout => obtain ⟨-, rfl⟩ := execPinout_next.mp h; exact .inl rfl
  | install => obtain ⟨-, rfl⟩ := execInstall_next.mp h; exact .inl rfl
  | wrcmpb v => obtain ⟨-, rfl⟩ := execWrcmpb_next.mp h; exact .inl rfl
  | reset => exact absurd rfl hi
  | clk => obtain rfl := execClk_next.mp h; exact .inl s.clockEffect_timerFrame.seqView
  | tick => obtain ⟨-, rfl⟩ := execTick_next.mp h; exact .inl s.tickEffect_timerFrame.seqView
  | ienter => obtain ⟨-, rfl⟩ := execIenter_next.mp h; exact .inr rfl
  | ldidx => exact absurd (hpc.symm.trans (execLdidx_next.mp h).1) (by decide)
  | wrcmp => exact absurd (hpc.symm.trans (execWrcmp_next.mp h).1) (by decide)
  | incidx => exact absurd (hpc.symm.trans (execIncidx_next.mp h).1) (by decide)
  | mskidx => exact absurd (hpc.symm.trans (execMskidx_next.mp h).1) (by decide)
  | iret => exact absurd (hpc.symm.trans (execIret_next.mp h).1) (by decide)

end Sys2Proof.Machine
end

section
/-! One invocation of the handler, followed operation by operation from the idle state it starts in: its net effect
with any timer operations inside it (R147). -/

namespace Sys2Proof.Machine

/-- What an invocation needs of the idle state it starts in: supported parameters, a whole table and an index in range
(R8, R37, R58). -/
structure Servable (e : State) : Prop where
  config : configOk e.cfg = true
  table : Memory.tableOk e.cfg e.rom = true
  idx : e.idx < e.cfg.n

theorem Inv.servable {s : State} (h : Inv s) (hpc : s.hpc = 0#3) : Servable s :=
  ⟨h.config, h.table, h.idxRange (by simp [hpc])⟩

theorem Servable.le_regMax {e : State} (h : Servable e) {v : Nat} (hv : e.table e.idx = some v) : v ≤ e.cfg.regMax := by
  obtain ⟨w, hw, hle⟩ := State.exists_sample h.table h.idx
  rwa [Option.some.inj (hv.symm.trans hw)]

/-- `u` stands inside the invocation that started in the idle state `e` with the sample `v` at its index. The handler
step tells how much of the net effect is there already; at `HPC = 4` the index is incremented and not yet masked. -/
structure InService (e : State) (v : Nat) (u : State) : Prop where
  cfg : u.cfg = e.cfg
  rom : u.rom = e.rom
  hpc : u.hpc ≠ 0#3
  idx : u.idx = if u.hpc = 4#3 then e.idx + 1 else if u.hpc = 5#3 then (e.idx + 1) % e.cfg.n else e.idx
  w0 : 2 ≤ u.hpc.toNat → u.w0 = e.idx
  cmpb : 3 ≤ u.hpc.toNat → u.cmpb = v
  wtrace : u.ghost.wtrace = e.ghost.wtrace ++ if 3 ≤ u.hpc.toNat then [v] else []
  ctrl : u.ctrl = { e.ctrl with gie := false }
  nIsr : u.ghost.nIsr = e.ghost.nIsr + 1
  nOvf : e.ghost.nOvf ≤ u.ghost.nOvf
  ovf : u.ovf = true ↔ e.ghost.nOvf < u.ghost.nOvf

/-- R147's net effect of an invocation: `t` is idle again and the invocation that started in `e` has written `v`. -/
structure Served (e : State) (v : Nat) (t : State) : Prop where
  cfg : t.cfg = e.cfg
  rom : t.rom = e.rom
  hpc : t.hpc = 0#3
  idx : t.idx = (e.idx + 1) % e.cfg.n
  w0 : t.w0 = e.idx
  cmpb : t.cmpb = v
  wtrace : t.ghost.wtrace = e.ghost.wtrace ++ [v]
  ctrl : t.ctrl = { e.ctrl with gie := true }
  nIsr : t.ghost.nIsr = e.ghost.nIsr + 1
  ovf : t.ovf = true ↔ e.ghost.nOvf < t.ghost.nOvf

theorem InService.enter (e : State) (v : Nat) : InService e v e.enterInterrupt where
  cfg := rfl
  rom := rfl
  hpc := by simp
  idx := by simp
  w0 := by simp
  cmpb := by simp
  wtrace := by simp
  ctrl := rfl
  nIsr := rfl
  nOvf := le_rfl
  ovf := by simp

section
variable {e u : State} {v : Nat}

theorem InService.table (h : InService e v u) (i : Nat) : u.table i = e.table i := by
  rw [State.table, State.table, h.cfg, h.rom]

theorem InService.timer {t : State} (h : InService e v u) (k : TimerFrame u t) : InService e v t := by
  have hhpc : t.hpc = u.hpc := congrArg SeqView.hpc k.seqView
  exact
  { cfg := (congrArg SeqView.cfg k.seqView).trans h.cfg
    rom := (congrArg SeqView.rom k.seqView).trans h.rom
    hpc := hhpc ▸ h.hpc
    idx := (congrArg SeqView.idx k.seqView).trans (hhpc ▸ h.idx)
    w0 := fun hw => (congrArg SeqView.w0 k.seqView).trans (h.w0 (hhpc ▸ hw))
    cmpb := fun hw => k.cmpb.trans (h.cmpb (hhpc ▸ hw))
    wtrace := (congrArg SeqView.wtrace k.seqView).trans (hhpc ▸ h.wtrace)
    ctrl := k.ctrl.trans h.ctrl
    nIsr := (congrArg SeqView.nIsr k.seqView).trans h.nIsr
    nOvf := h.nOvf.trans k.nOvf
    ovf := by
      have hle := h.nOvf
      have kle := k.nOvf
      rw [k.ovf, h.ovf]
      omega }

theorem InService.ldidx (h : InService e v u) (hpc : u.hpc = 1#3) :
    InService e v { u with w0 := u.idx, hpc := 2#3 } :=
  have hidx : u.idx = e.idx := by simpa [hpc] using h.idx
  { h with
    hpc := by simp
    idx := hidx
    w0 := fun _ => hidx
    cmpb := by simp
    wtrace := by simpa [hpc] using h.wtrace }

/-- The sample that `WRCMP` reads is the one at the index the invocation started with. -/
theorem InService.table_w0 (h : InService e v u) (hpc : u.hpc = 2#3) : u.table u.w0 = e.table e.idx := by
  rw [h.table, h.w0 (by simp [hpc])]

theorem InService.wrcmp (h : InService e v u) (hpc : u.hpc = 2#3) (hv : v ≤ e.cfg.regMax) :
    InService e v (u.writeSample v) := by
  rw [State.writeSample_of_le (h.cfg ▸ hv)]
  exact
  { h with
    hpc := by simp
    idx := by simpa [hpc] using h.idx
    w0 := fun _ => h.w0 (by simp [hpc])
    cmpb := fun _ => rfl
    wtrace := by simpa [hpc] using h.wtrace }

theorem InService.incidx (he : Servable e) (h : InService e v u) (hpc : u.hpc = 3#3) :
    InService e v { u.setIdx (u.idx + 1) with hpc := 4#3 } := by
  have hidx : u.idx = e.idx := by simpa [hpc] using h.idx
  rw [State.setIdx_succ_of_lt (h.cfg ▸ he.config) (by rw [hidx, h.cfg]; exact he.idx)]
  exact
  { h with
    hpc := by simp
    idx := congrArg (· + 1) hidx
    w0 := fun _ => h.w0 (by simp [hpc])
    cmpb := fun _ => h.cmpb (by simp [hpc])
    wtrace := by simpa [hpc] using h.wtrace }

theorem InService.mskidx (he : Servable e) (h : InService e v u) (hpc : u.hpc = 4#3) :
    InService e v { u with idx := u.idx &&& u.cfg.mask, hpc := 5#3 } :=
  have hidx : u.idx = e.idx + 1 := by simpa [hpc] using h.idx
  { h with
    hpc := by simp
    idx := by simp [hidx, h.cfg, and_mask_of_configOk he.config]
    w0 := fun _ => h.w0 (by simp [hpc])
    cmpb := fun _ => h.cmpb (by simp [hpc])
    wtrace := by simpa [hpc] using h.wtrace }

theorem InService.iret (h : InService e v u) (hpc : u.hpc = 5#3) : Served e v u.returnFromInterrupt where
  cfg := h.cfg
  rom := h.rom
  hpc := rfl
  idx := by simpa [hpc] using h.idx
  w0 := h.w0 (by simp [hpc])
  cmpb := h.cmpb (by simp [hpc])
  wtrace := by simpa [hpc] using h.wtrace
  ctrl := by simp [h.ctrl]
  nIsr := h.nIsr
  ovf := h.ovf

/-- In service an operation other than `RESET` is the timer's or the handler's next step (R100, R33). -/
theorem InService.exec_next {i : Instr} {t : State} (he : Servable e) (hv : e.table e.idx = some v) (h : InService e v u)
    (hi : i ≠ .reset) (ht : exec i u = .next t) : InService e v t ∨ Served e v t := by
  cases i with
  | idle | setgie | setmode | setps | pinout | install | wrcmpb =>
    rw [exec_fg_in_service rfl h.hpc] at ht
    cases ht
  | reset => exact absurd rfl hi
  | clk => obtain rfl := execClk_next.mp ht; exact .inl (h.timer u.clockEffect_timerFrame)
  | tick => obtain ⟨-, rfl⟩ := execTick_next.mp ht; exact .inl (h.timer u.tickEffect_timerFrame)
  | ienter => exact absurd (execIenter_next.mp ht).1.1 h.hpc
  | ldidx => obtain ⟨hpc, rfl⟩ := execLdidx_next.mp ht; exact .inl (h.ldidx hpc)
  | wrcmp =>
    obtain ⟨hpc, w, hw, rfl⟩ := execWrcmp_next.mp ht
    obtain rfl : v = w := Option.some.inj (hv.symm.trans ((h.table_w0 hpc).symm.trans hw))
    exact .inl (h.wrcmp hpc (he.le_regMax hv))
  | incidx => obtain ⟨hpc, rfl⟩ := execIncidx_next.mp ht; exact .inl (h.incidx he hpc)
  | mskidx => obtain ⟨hpc, rfl⟩ := execMskidx_next.mp ht; exact .inl (h.mskidx he hpc)
  | iret => obtain ⟨hpc, rfl⟩ := execIret_next.mp ht; exact .inr (h.iret hpc)

theorem InService.timerOps {ops : List Instr} (h : InService e v u) (hops : TimerOps e.timerRuns ops) :
    ∃ t, runOps ops u = .next t ∧ InService e v t ∧ t.hpc = u.hpc := by
  have hruns : u.timerRuns = e.timerRuns := by rw [State.timerRuns, h.ctrl]; rfl
  obtain ⟨t, ht, hframe⟩ := TimerOps.run (hruns.symm ▸ hops)
  exact ⟨t, ht, h.timer hframe, congrArg SeqView.hpc hframe.seqView⟩

/-- One more operation and the timer operations after it, at the end of a run. -/
theorem runOps_snoc_append {ops rest : List Instr} {i : Instr} {s t w : State} (hops : runOps ops s = .next t)
    (hi : exec i t = .next u) (hrest : runOps rest u = .next w) : runOps (ops ++ [i] ++ rest) s = .next w :=
  runOps_append_next.mpr
    ⟨u, runOps_append_next.mpr ⟨t, hops, runOps_cons_next.mpr ⟨u, hi, rfl⟩⟩, hrest⟩

/-- The six handler operations with timer operations after each have a run, from an idle state with a pending, enabled
event. -/
theorem Servable.serve (he : Servable e) (hv : e.table e.idx = some v)
    (henter : e.hpc = 0#3 ∧ e.ovf = true ∧ e.ctrl.ovie = true ∧ e.ctrl.gie = true) {a b c d f : List Instr}
    (ha : TimerOps e.timerRuns a) (hb : TimerOps e.timerRuns b) (hc : TimerOps e.timerRuns c)
    (hd : TimerOps e.timerRuns d) (hf : TimerOps e.timerRuns f) :
    ∃ t, runOps ([.ienter] ++ a ++ [.ldidx] ++ b ++ [.wrcmp] ++ c ++ [.incidx] ++ d ++ [.mskidx] ++ f ++ [.iret]) e
      = .next t ∧ Served e v t := by
  obtain ⟨u₁, run₁, h₁, hpc₁⟩ := (InService.enter e v).timerOps ha
  obtain ⟨u₂, run₂, h₂, hpc₂⟩ := (h₁.ldidx hpc₁).timerOps hb
  obtain ⟨u₃, run₃, h₃, hpc₃⟩ := (h₂.wrcmp hpc₂ (he.le_regMax hv)).timerOps hc
  obtain ⟨u₄, run₄, h₄, hpc₄⟩ := (h₃.incidx he hpc₃).timerOps hd
  obtain ⟨u₅, run₅, h₅, hpc₅⟩ := (h₄.mskidx he hpc₄).timerOps hf
  have toLdidx := runOps_snoc_append (runOps_nil e) (execIenter_next.mpr ⟨henter, rfl⟩) run₁
  have toWrcmp := runOps_snoc_append toLdidx (execLdidx_next.mpr ⟨hpc₁, rfl⟩) run₂
  have toIncidx := runOps_snoc_append toWrcmp
    (execWrcmp_next.mpr ⟨hpc₂, v, (h₂.table_w0 hpc₂).trans hv, rfl⟩) run₃
  have toMskidx := runOps_snoc_append toIncidx (execIncidx_next.mpr ⟨hpc₃, rfl⟩) run₄
  have toIret := runOps_snoc_append toMskidx (execMskidx_next.mpr ⟨hpc₄, rfl⟩) run₅
  have iret := execIret_next.mpr ⟨hpc₅, rfl⟩
  exact ⟨_, runOps_append_next.mpr ⟨u₅, toIret, runOps_cons_next.mpr ⟨_, iret, rfl⟩⟩, h₅.iret hpc₅⟩

end

/-- Settles O40: the invariant gives the sample, and `GIE`, which `IRET` sets, was 1 before. -/
theorem serviceNetEffect : Obligations.ServiceNetEffect := by
  intro s a b c d f hinv hpc hovf hovie hgie hops
  simp only [List.forall_mem_append] at hops
  obtain ⟨⟨⟨⟨ha, hb⟩, hc⟩, hd⟩, hf⟩ := hops
  have he := hinv.servable hpc
  obtain ⟨v, hv, -⟩ := State.exists_sample he.table he.idx
  obtain ⟨t, hrun, ht⟩ := he.serve hv ⟨hpc, hovf, hovie, hgie⟩ ha hb hc hd hf
  have hctrl : t.ctrl = s.ctrl := ht.ctrl.trans (by rw [← hgie])
  exact ⟨t, v, hv, hrun, ht.cmpb, ht.idx, ht.w0, ht.hpc, hctrl, ht.wtrace, ht.nIsr, ht.ovf⟩

end Sys2Proof.Machine
end

section
/-! The written sequence: over any run without `RESET`, the invocations write the table's samples in cyclic order (R148),
and so the sequence depends on the starting index and the table alone (R149). -/

namespace Sys2Proof.Machine

/-- The invocations between the idle states `s` and `e` have written `samples`, one each: the table's samples from the
index of `s` on, modulo `N`. -/
structure Completed (s e : State) (samples : List Nat) : Prop where
  cfg : e.cfg = s.cfg
  rom : e.rom = s.rom
  hpc : e.hpc = 0#3
  idx : e.idx = (s.idx + samples.length) % s.cfg.n
  nIsr : e.ghost.nIsr = s.ghost.nIsr + samples.length
  wtrace : e.ghost.wtrace = s.ghost.wtrace ++ samples
  cyclic : ∀ k < samples.length, samples[k]? = s.table ((s.idx + k) % s.cfg.n)

theorem Completed.refl {s : State} (hs : Servable s) (hpc : s.hpc = 0#3) : Completed s s [] where
  cfg := rfl
  rom := rfl
  hpc := hpc
  idx := (Nat.mod_eq_of_lt hs.idx).symm
  nIsr := rfl
  wtrace := (List.append_nil _).symm
  cyclic := nofun

section
variable {s e : State} {samples : List Nat}

theorem Completed.table (h : Completed s e samples) (i : Nat) : e.table i = s.table i := by
  rw [State.table, State.table, h.cfg, h.rom]

/-- The operations that leave SEQ's part of the state leave what its invocations have done. -/
theorem Completed.frame {t : State} (h : Completed s e samples) (hview : t.seqView = e.seqView) :
    Completed s t samples where
  cfg := (congrArg SeqView.cfg hview).trans h.cfg
  rom := (congrArg SeqView.rom hview).trans h.rom
  hpc := (congrArg SeqView.hpc hview).trans h.hpc
  idx := (congrArg SeqView.idx hview).trans h.idx
  nIsr := (congrArg SeqView.nIsr hview).trans h.nIsr
  wtrace := (congrArg SeqView.wtrace hview).trans h.wtrace
  cyclic := h.cyclic

theorem Completed.servable (h : Completed s e samples) (hs : Servable s) : Servable e where
  config := h.cfg ▸ hs.config
  table := h.cfg ▸ h.rom ▸ hs.table
  idx := by
    rw [h.idx, h.cfg]
    exact Nat.mod_lt _ (Nat.zero_lt_of_lt hs.idx)

/-- One more invocation writes the next sample. -/
theorem Completed.snoc {v : Nat} {t : State} (h : Completed s e samples) (hv : e.table e.idx = some v)
    (ht : Served e v t) : Completed s t (samples ++ [v]) where
  cfg := ht.cfg.trans h.cfg
  rom := ht.rom.trans h.rom
  hpc := ht.hpc
  idx := by rw [ht.idx, h.idx, h.cfg, Nat.mod_add_mod, List.length_append, List.length_singleton, Nat.add_assoc]
  nIsr := by rw [ht.nIsr, h.nIsr, List.length_append, List.length_singleton, Nat.add_assoc]
  wtrace := by rw [ht.wtrace, h.wtrace, List.append_assoc]
  cyclic := by
    intro k hk
    rw [List.length_append, List.length_singleton, Nat.lt_succ_iff_lt_or_eq] at hk
    obtain hk | rfl := hk
    · rw [List.getElem?_append_left hk, h.cyclic k hk]
    · rw [List.getElem?_concat_length, ← hv, h.idx, h.table]

end

/-- Where a run from `s` stands: between two invocations, or inside one. -/
inductive Progress (s : State) : State → Prop where
  | idle {u : State} {samples : List Nat} (h : Completed s u samples) : Progress s u
  | inService {e u : State} {samples : List Nat} {v : Nat} (h : Completed s e samples) (hv : e.table e.idx = some v)
      (hu : InService e v u) : Progress s u

theorem Progress.step {i : Instr} {s u t : State} (hs : Servable s) (h : Progress s u) (hi : i ≠ .reset)
    (ht : exec i u = .next t) : Progress s t := by
  cases h with
  | idle h =>
    obtain hview | rfl := exec_of_idle hi h.hpc ht
    · exact .idle (h.frame hview)
    · have hu := h.servable hs
      obtain ⟨v, hv, -⟩ := State.exists_sample hu.table hu.idx
      exact .inService h hv (InService.enter u v)
  | inService h hv hu =>
    obtain ht | ht := hu.exec_next (h.servable hs) hv hi ht
    · exact .inService h hv ht
    · exact .idle (h.snoc hv ht)

theorem Progress.run {ops : List Instr} {s u t : State} (hs : Servable s) (h : Progress s u) (hops : Instr.reset ∉ ops)
    (ht : runOps ops u = .next t) : Progress s t := by
  induction ops generalizing u with
  | nil => cases ht; exact h
  | cons i rest ih =>
    obtain ⟨w, hw, ht⟩ := runOps_cons_next.mp ht
    obtain ⟨hi, hrest⟩ := not_or.mp (mt List.mem_cons.mpr hops)
    exact ih (h.step hs (Ne.symm hi) hw) hrest ht

/-- A run without `RESET` between idle states is a number of whole invocations. -/
theorem exists_completed {ops : List Instr} {s t : State} (hinv : Inv s) (hpc : s.hpc = 0#3) (hops : Instr.reset ∉ ops)
    (ht : runOps ops s = .next t) (hidle : t.hpc = 0#3) : ∃ samples, Completed s t samples := by
  have hs := hinv.servable hpc
  cases Progress.run hs (.idle (Completed.refl hs hpc)) hops ht with
  | idle h => exact ⟨_, h⟩
  | inService _ _ ht => exact absurd hidle ht.hpc

/-- The samples of as many invocations from the same index of the same table are the same. -/
theorem Completed.samples_eq {s₁ s₂ t₁ t₂ : State} {l₁ l₂ : List Nat} (h₁ : Completed s₁ t₁ l₁)
    (h₂ : Completed s₂ t₂ l₂) (hn : s₁.cfg.n = s₂.cfg.n) (hidx : s₁.idx = s₂.idx)
    (htable : ∀ i, s₁.table i = s₂.table i) (hlen : l₁.length = l₂.length) : l₁ = l₂ := by
  refine List.ext_getElem? fun k => ?_
  obtain hk | hk := lt_or_ge k l₁.length
  · rw [h₁.cyclic k hk, h₂.cyclic k (hlen ▸ hk), htable, hidx, hn]
  · rw [List.getElem?_eq_none hk, List.getElem?_eq_none (hlen ▸ hk)]

/-- Settles O41: `j` is the number of samples that the completed invocations have written. -/
theorem invocationsWriteTheTableCyclically : Obligations.InvocationsWriteTheTableCyclically := by
  intro ops s t hinv hpc hops ht hidle
  obtain ⟨samples, h⟩ := exists_completed hinv hpc hops ht hidle
  exact ⟨samples.length, samples, h.nIsr, h.idx, h.wtrace, rfl, h.cyclic⟩

/-- Settles O42: both runs are whole invocations, equally many, and their samples are told by index and table. -/
theorem writtenSequenceIsDeterministic : Obligations.WrittenSequenceIsDeterministic := by
  intro ops₁ ops₂ s₁ s₂ t₁ t₂ w₁ w₂ hinv₁ hinv₂ hpc₁ hpc₂ hn hidx htable hops₁ hops₂ ht₁ ht₂ hidle₁ hidle₂ hcount
    hw₁ hw₂
  obtain ⟨l₁, h₁⟩ := exists_completed hinv₁ hpc₁ hops₁ ht₁ hidle₁
  obtain ⟨l₂, h₂⟩ := exists_completed hinv₂ hpc₂ hops₂ ht₂ hidle₂
  obtain rfl : l₁ = w₁ := List.append_cancel_left (h₁.wtrace.symm.trans hw₁)
  obtain rfl : l₂ = w₂ := List.append_cancel_left (h₂.wtrace.symm.trans hw₂)
  have hlen : l₁.length = l₂.length := by
    rwa [h₁.nIsr, h₂.nIsr, Nat.add_sub_cancel_left, Nat.add_sub_cancel_left] at hcount
  exact ⟨h₁.samples_eq h₂ hn hidx htable hlen, by rw [h₁.idx, h₂.idx, hidx, hn, hlen]⟩

end Sys2Proof.Machine
end

section
/-! The critical section: while the global enable is off and SEQ is idle, no operation of SEQ has a step, and a run keeps
what SEQ reads and writes; of the timer's events only the pending flag stays (R174, R176). -/

namespace Sys2Proof.Machine

/-- R173, R174: with SEQ idle and delivery off, no operation of SEQ has a step. -/
theorem exec_seq_while_off {i : Instr} {s : State} (hi : i.issuer = .seq) (hpc : s.hpc = 0#3)
    (hgie : s.ctrl.gie = false) : exec i s = .refused .guardFalse := by
  cases i with
  | ienter => exact execIenter_of_gie_false hgie
  | ldidx | wrcmp | incidx | mskidx | iret => exact exec_of_guardOf_false (by rw [guardOf, hpc]; rfl)
  | _ => nomatch hi

/-- What a run in a critical section keeps: SEQ's part of the state and the global enable. The flag tells whether an
event occurred, as in `TimerFrame`; the foreground may write the rest of `CTRL` and the buffer. -/
structure CriticalFrame (s t : State) : Prop where
  seqView : t.seqView = s.seqView
  gie : t.ctrl.gie = s.ctrl.gie
  nOvf : s.ghost.nOvf ≤ t.ghost.nOvf
  ovf : t.ovf = true ↔ s.ovf = true ∨ s.ghost.nOvf < t.ghost.nOvf

/-- An operation that leaves the flag and the bookkeeping raises no event. -/
theorem CriticalFrame.of_ghost_eq {s t : State} (hview : t.seqView = s.seqView) (hgie : t.ctrl.gie = s.ctrl.gie)
    (hovf : t.ovf = s.ovf) (hghost : t.ghost = s.ghost) : CriticalFrame s t where
  seqView := hview
  gie := hgie
  nOvf := by rw [hghost]
  ovf := by simp [hovf, hghost]

theorem CriticalFrame.refl (s : State) : CriticalFrame s s := .of_ghost_eq rfl rfl rfl rfl

theorem CriticalFrame.trans {s t u : State} (h : CriticalFrame s t) (k : CriticalFrame t u) : CriticalFrame s u where
  seqView := k.seqView.trans h.seqView
  gie := k.gie.trans h.gie
  nOvf := h.nOvf.trans k.nOvf
  ovf := by
    have hevents : s.ghost.nOvf < u.ghost.nOvf ↔ s.ghost.nOvf < t.ghost.nOvf ∨ t.ghost.nOvf < u.ghost.nOvf := by
      have := h.nOvf
      have := k.nOvf
      omega
    rw [k.ovf, h.ovf, hevents, or_assoc]

theorem TimerFrame.critical {s t : State} (h : TimerFrame s t) : CriticalFrame s t :=
  ⟨h.seqView, congrArg Ctrl.gie h.ctrl, h.nOvf, h.ovf⟩

/-- One operation of a critical section: it is not SEQ's, and it keeps the frame. -/
theorem exec_critical {i : Instr} {s t : State} (hpc : s.hpc = 0#3) (hgie : s.ctrl.gie = false) (hreset : i ≠ .reset)
    (henable : i ≠ .setgie true) (h : exec i s = .next t) : i.issuer ≠ .seq ∧ CriticalFrame s t := by
  have hseq : i.issuer ≠ .seq := fun hi => nomatch (exec_seq_while_off hi hpc hgie).symm.trans h
  refine ⟨hseq, ?_⟩
  cases i with
  | idle => obtain ⟨-, rfl⟩ := execIdle_next.mp h; exact .refl _
  | setgie b =>
    obtain ⟨-, rfl⟩ := execSetgie_next.mp h
    have hb : b = false := Bool.eq_false_of_not_eq_true fun hb => henable (congrArg _ hb)
    exact .of_ghost_eq rfl (hb.trans hgie.symm) rfl rfl
  | setmode b => obtain ⟨-, rfl⟩ := execSetmode_next.mp h; exact .of_ghost_eq rfl rfl rfl rfl
  | setps c => obtain ⟨-, rfl⟩ := execSetps_next.mp h; exact .of_ghost_eq rfl rfl rfl rfl
  | pinout => obtain ⟨-, rfl⟩ := execPinout_next.mp h; exact .of_ghost_eq rfl rfl rfl rfl
  | install => obtain ⟨-, rfl⟩ := execInstall_next.mp h; exact .of_ghost_eq rfl rfl rfl rfl
  | wrcmpb v => obtain ⟨-, rfl⟩ := execWrcmpb_next.mp h; exact .of_ghost_eq rfl rfl rfl rfl
  | reset => exact absurd rfl hreset
  | clk => obtain rfl := execClk_next.mp h; exact s.clockEffect_timerFrame.critical
  | tick => obtain ⟨-, rfl⟩ := execTick_next.mp h; exact s.tickEffect_timerFrame.critical
  | ienter | ldidx | wrcmp | incidx | mskidx | iret => exact absurd rfl hseq

/-- A critical section of any length: the frame keeps SEQ idle and delivery off, so the next operation is in it too. -/
theorem runOps_critical {ops : List Instr} {s t : State} (hpc : s.hpc = 0#3) (hgie : s.ctrl.gie = false)
    (hreset : Instr.reset ∉ ops) (henable : Instr.setgie true ∉ ops) (h : runOps ops s = .next t) :
    (∀ i ∈ ops, i.issuer ≠ .seq) ∧ CriticalFrame s t := by
  induction ops generalizing s with
  | nil => cases h; exact ⟨nofun, .refl _⟩
  | cons i rest ih =>
    obtain ⟨u, hu, ht⟩ := runOps_cons_next.mp h
    obtain ⟨hi, hrest⟩ := not_or.mp (mt List.mem_cons.mpr hreset)
    obtain ⟨hi', hrest'⟩ := not_or.mp (mt List.mem_cons.mpr henable)
    obtain ⟨hseq, hframe⟩ := exec_critical hpc hgie (Ne.symm hi) (Ne.symm hi') hu
    have hpc' : u.hpc = 0#3 := (congrArg SeqView.hpc hframe.seqView).trans hpc
    obtain ⟨hseqs, hframe'⟩ := ih hpc' (hframe.gie.trans hgie) hrest hrest' ht
    exact ⟨List.forall_mem_cons.mpr ⟨hseq, hseqs⟩, hframe.trans hframe'⟩

/-- Settles O44: each clause is read off the frame of the whole run. -/
theorem criticalSectionHoldsTheHandler : Obligations.CriticalSectionHoldsTheHandler := by
  intro ops s t hpc hgie hreset henable h
  obtain ⟨hseqs, hframe⟩ := runOps_critical hpc hgie hreset henable h
  have hview := hframe.seqView
  exact ⟨hseqs, (congrArg SeqView.hpc hview).trans hpc, hframe.gie.trans hgie, congrArg SeqView.idx hview,
    congrArg SeqView.w0 hview, congrArg SeqView.nIsr hview, congrArg SeqView.wtrace hview, hframe.ovf⟩

end Sys2Proof.Machine
end

section
/-! Reset and hazards: what no step changes (R202), and the state after power-on, which the hardware leaves only when
the foreground acts (R203). -/

namespace Sys2Proof.Machine

/-- What is fixed before a machine runs stays: its build-time parameters and its ROM (R52, R202). -/
structure BuildFrame (s t : State) : Prop where
  cfg : t.cfg = s.cfg
  rom : t.rom = s.rom

theorem BuildFrame.trans {s t u : State} (h : BuildFrame s t) (k : BuildFrame t u) : BuildFrame s u :=
  ⟨k.cfg.trans h.cfg, k.rom.trans h.rom⟩

/-- A sample is told by the parameters and the ROM. -/
theorem BuildFrame.table {s t : State} (h : BuildFrame s t) (i : Nat) : t.table i = s.table i := by
  rw [State.table, State.table, h.cfg, h.rom]

theorem TimerFrame.build {s t : State} (h : TimerFrame s t) : BuildFrame s t :=
  ⟨congrArg SeqView.cfg h.seqView, congrArg SeqView.rom h.seqView⟩

theorem exec_next_build {i : Instr} {s t : State} (h : exec i s = .next t) : BuildFrame s t := by
  cases i with
  | idle => obtain ⟨-, rfl⟩ := execIdle_next.mp h; exact ⟨rfl, rfl⟩
  | setgie b => obtain ⟨-, rfl⟩ := execSetgie_next.mp h; exact ⟨rfl, rfl⟩
  | setmode b => obtain ⟨-, rfl⟩ := execSetmode_next.mp h; exact ⟨rfl, rfl⟩
  | setps c => obtain ⟨-, rfl⟩ := execSetps_next.mp h; exact ⟨rfl, rfl⟩
  | pinout => obtain ⟨-, rfl⟩ := execPinout_next.mp h; exact ⟨rfl, rfl⟩
  | install => obtain ⟨-, rfl⟩ := execInstall_next.mp h; exact ⟨rfl, rfl⟩
  | wrcmpb v => obtain ⟨-, rfl⟩ := execWrcmpb_next.mp h; exact ⟨s.setCmpb_cfg _, s.setCmpb_rom _⟩
  | reset => obtain rfl := execReset_next.mp h; exact ⟨s.clearRegisters_cfg, s.clearRegisters_rom⟩
  | clk => obtain rfl := execClk_next.mp h; exact s.clockEffect_timerFrame.build
  | tick => obtain ⟨-, rfl⟩ := execTick_next.mp h; exact s.tickEffect_timerFrame.build
  | ienter => obtain ⟨-, rfl⟩ := execIenter_next.mp h; exact ⟨s.enterInterrupt_cfg, s.enterInterrupt_rom⟩
  | ldidx => obtain ⟨-, rfl⟩ := execLdidx_next.mp h; exact ⟨rfl, rfl⟩
  | wrcmp => obtain ⟨-, v, -, rfl⟩ := execWrcmp_next.mp h; exact ⟨s.writeSample_cfg v, s.writeSample_rom v⟩
  | incidx =>
    obtain ⟨-, rfl⟩ := execIncidx_next.mp h
    exact ⟨s.setIdx_cfg (s.idx + 1), s.setIdx_rom (s.idx + 1)⟩
  | mskidx => obtain ⟨-, rfl⟩ := execMskidx_next.mp h; exact ⟨rfl, rfl⟩
  | iret => obtain ⟨-, rfl⟩ := execIret_next.mp h; exact ⟨s.returnFromInterrupt_cfg, s.returnFromInterrupt_rom⟩

/-- Taking a line changes the schedule alone. -/
theorem State.takeLine_build (s : State) : BuildFrame s s.takeLine.2 := by
  obtain ⟨l, rest, -, h⟩ | ⟨-, h⟩ := s.takeLine_cases <;> rw [h] <;> exact ⟨rfl, rfl⟩

theorem step_next_build {s t : State} (h : step s = .next t) : BuildFrame s t := by
  obtain ⟨i, -, hexec⟩ := step_eq_next.mp h
  exact s.takeLine_build.trans (exec_next_build hexec)

/-- Settles O16: `RESET` is one of the operations, none of which writes the parameters or the ROM, and a step is an
operation on the state with a line taken. -/
theorem stepsKeepParametersAndTable : Obligations.StepsKeepParametersAndTable := by
  intro s t h
  have hframe : BuildFrame s t := h.elim exec_next_build step_next_build
  exact ⟨hframe.cfg, hframe.table⟩

/-- R121, R122: clocks do nothing to a stopped timer, however many. -/
theorem runOps_clk_of_stopped {s : State} (h : s.timerRuns = false) (k : Nat) :
    runOps (List.replicate k .clk) s = .next s := by
  induction k with
  | zero => rfl
  | succ k ih => exact runOps_cons_next.mpr ⟨s, execClk_next.mpr (State.clockEffect_of_stopped h), ih⟩

/-- R121: while the timer is stopped, no operation of TMR but `CLK` has a step. -/
theorem exec_tmr_while_stopped {i : Instr} {s : State} (hi : i.issuer = .tmr) (hclk : i ≠ .clk)
    (h : s.timerRuns = false) : exec i s = .refused .guardFalse := by
  cases i with
  | clk => exact absurd rfl hclk
  | tick => exact exec_of_guardOf_false (i := .tick) h
  | _ => nomatch hi

/-- Settles O17: after power-on the timer is stopped, SEQ is idle with delivery off, and the output is not enabled. -/
theorem resetStateIsQuiescent : Obligations.ResetStateIsQuiescent := by
  intro c rom
  have hstopped : (State.powerOn c rom).timerRuns = false := State.timerRuns_of_mode_false rfl
  refine ⟨runOps_clk_of_stopped hstopped, fun i hi hclk => ?hardware, State.pin_of_poe_false rfl⟩
  case hardware =>
    obtain htmr | hseq := hi
    · exact exec_tmr_while_stopped htmr hclk hstopped
    · exact exec_seq_while_off hseq rfl rfl

end Sys2Proof.Machine
end

section
/-! The invariants of R37: they depend on the registers, the parameters and the ROM alone, every operation keeps them,
and with them so does every step. -/

namespace Sys2Proof.Machine

/-- R37 item 1 outside the one step between `INCIDX` and `MSKIDX`. -/
theorem Inv.idx_lt {s : State} (hinv : Inv s) {k : BitVec 3} (hpc : s.hpc = k) (hk : k ≠ 4#3) : s.idx < s.cfg.n :=
  hinv.idxRange (hpc ▸ hk)

theorem trunc_le_regMax (c : Config) (v : Nat) : trunc c.regBits v ≤ c.regMax :=
  Config.le_regMax_iff.mpr (trunc_lt _ v)

theorem trunc_le_top (c : Config) (v : Nat) : trunc c.timerBits v ≤ c.top :=
  Config.le_top_iff.mpr (trunc_lt _ v)

/-- A supported table is not empty (R6). -/
theorem n_pos_of_configOk {c : Config} (h : configOk c = true) : 0 < c.n := by
  rw [n_eq_two_pow_of_configOk h]
  exact Nat.two_pow_pos _

/-- With every register at 0 there is nothing to check but the parameters and the ROM. -/
theorem Inv.powerOn {c : Config} {rom : Memory} (hc : configOk c = true) (htable : Memory.tableOk c rom = true)
    (hwf : Memory.wf c rom = true) : Inv (State.powerOn c rom) where
  config := hc
  table := htable
  romForm := hwf
  idxRange _ := n_pos_of_configOk hc
  idxTransient h := nomatch h
  w0Range := n_pos_of_configOk hc
  hpcRange := Nat.zero_le _
  divRange h := absurd rfl h
  serviceMask h := absurd rfl h
  cmpbRange := Nat.zero_le _
  cmpaRange := Nat.zero_le _
  cntRange := Nat.zero_le _

theorem Inv.clearRegisters {s : State} (hinv : Inv s) : Inv s.clearRegisters :=
  { Inv.powerOn hinv.config hinv.table hinv.romForm with }

theorem Inv.tickEffect {s : State} (hinv : Inv s) : Inv s.tickEffect := by
  obtain ⟨-, h⟩ | ⟨-, h⟩ := s.tickEffect_cases <;> rw [h]
  · exact { hinv with cmpaRange := hinv.cmpbRange, cntRange := Nat.zero_le _ }
  · exact { hinv with cntRange := trunc_le_top _ _ }

/-- A clock that is not the last of a tick leaves the divider below the factor, so far from its own wrap (R26). -/
theorem div_succ_lt {d : BitVec 10} {c : BitVec 3} (h : d.toNat < presc c) (hdue : d.toNat + 1 ≠ presc c) :
    (d + 1#10).toNat < presc c := by
  have hsucc : d.toNat + 1 < presc c := by omega
  rwa [← ofNat_toNat_add_one, toNat_ofNat_of_lt_presc hsucc]

theorem Inv.clockEffect {s : State} (hinv : Inv s) : Inv s.clockEffect := by
  obtain ⟨-, h⟩ | ⟨-, hdue, h⟩ | ⟨-, -, h⟩ := s.clockEffect_cases <;> rw [h]
  · exact hinv
  · have hdue : s.div.toNat + 1 ≠ presc s.ctrl.ps := beq_eq_false_iff_ne.mp hdue
    exact { hinv with divRange := fun hps => div_succ_lt (hinv.divRange hps) hdue }
  · have hcleared : Inv { s with div := 0#10 } := { hinv with divRange := presc_pos }
    exact hcleared.tickEffect

/-- R37: the handler's steps hand the index over from one to the next, and no operation of another agent writes what
the steps rely on. -/
theorem Inv.exec {i : Instr} {s t : State} (hinv : Inv s) (h : exec i s = .next t) : Inv t := by
  cases i with
  | idle => obtain ⟨-, rfl⟩ := execIdle_next.mp h; exact hinv
  | setgie b =>
    obtain ⟨hpc, rfl⟩ := execSetgie_next.mp h
    exact { hinv with serviceMask := fun hservice => absurd hpc hservice }
  | setmode b => obtain ⟨-, rfl⟩ := execSetmode_next.mp h; exact { hinv with }
  | setps c => obtain ⟨-, rfl⟩ := execSetps_next.mp h; exact { hinv with divRange := presc_pos }
  | pinout => obtain ⟨-, rfl⟩ := execPinout_next.mp h; exact { hinv with }
  | install =>
    obtain ⟨hpc, rfl⟩ := execInstall_next.mp h
    exact { hinv with serviceMask := fun hservice => absurd hpc hservice }
  | wrcmpb v => obtain ⟨-, rfl⟩ := execWrcmpb_next.mp h; exact { hinv with cmpbRange := trunc_le_regMax _ _ }
  | reset => obtain rfl := execReset_next.mp h; exact hinv.clearRegisters
  | clk => obtain rfl := execClk_next.mp h; exact hinv.clockEffect
  | tick => obtain ⟨-, rfl⟩ := execTick_next.mp h; exact hinv.tickEffect
  | ienter =>
    obtain ⟨⟨hpc, -, hovie, -⟩, rfl⟩ := execIenter_next.mp h
    exact { hinv with
      idxRange := fun _ => hinv.idx_lt hpc (by decide)
      idxTransient := nofun
      hpcRange := by simp
      serviceMask := fun _ => ⟨rfl, hovie⟩ }
  | ldidx =>
    obtain ⟨hpc, rfl⟩ := execLdidx_next.mp h
    exact { hinv with
      idxRange := fun _ => hinv.idx_lt hpc (by decide)
      idxTransient := nofun
      w0Range := hinv.idx_lt hpc (by decide)
      hpcRange := by simp
      serviceMask := fun _ => hinv.serviceMask (by simp [hpc]) }
  | wrcmp =>
    obtain ⟨hpc, v, -, rfl⟩ := execWrcmp_next.mp h
    exact { hinv with
      idxRange := fun _ => hinv.idx_lt hpc (by decide)
      idxTransient := nofun
      hpcRange := by simp
      serviceMask := fun _ => hinv.serviceMask (by simp [hpc])
      cmpbRange := trunc_le_regMax _ _ }
  | incidx =>
    obtain ⟨hpc, rfl⟩ := execIncidx_next.mp h
    have hidx := hinv.idx_lt hpc (by decide)
    rw [State.setIdx_succ_of_lt hinv.config hidx]
    exact { hinv with
      idxRange := fun hne => absurd rfl hne
      idxTransient := fun _ => ⟨Nat.succ_pos _, hidx⟩
      hpcRange := by simp
      serviceMask := fun _ => hinv.serviceMask (by simp [hpc]) }
  | mskidx =>
    obtain ⟨hpc, rfl⟩ := execMskidx_next.mp h
    exact { hinv with
      idxRange := fun _ => by
        rw [and_mask_of_configOk hinv.config]
        exact Nat.mod_lt _ (n_pos_of_configOk hinv.config)
      idxTransient := nofun
      hpcRange := by simp
      serviceMask := fun _ => hinv.serviceMask (by simp [hpc]) }
  | iret =>
    obtain ⟨hpc, rfl⟩ := execIret_next.mp h
    exact { hinv with
      idxRange := fun _ => hinv.idx_lt hpc (by decide)
      idxTransient := nofun
      hpcRange := by simp
      serviceMask := fun hservice => absurd rfl hservice }

/-- Taking a line changes the schedule alone, which no invariant mentions. -/
theorem Inv.takeLine {s : State} (hinv : Inv s) : Inv s.takeLine.2 := by
  obtain ⟨l, rest, -, h⟩ | ⟨-, h⟩ := s.takeLine_cases <;> rw [h] <;> exact { hinv with }

/-- Settles O57: a step is an operation on the state with a line taken, and each of the two keeps the invariants. -/
theorem everyStepKeepsTheInvariant : Obligations.EveryStepKeepsTheInvariant := by
  intro s t hinv h
  obtain ⟨i, -, hexec⟩ := step_eq_next.mp h
  exact hinv.takeLine.exec hexec

end Sys2Proof.Machine
end

section
/-! The lines of a schedule: the verdict on a line, a step on the line it takes, and the verdict on a whole schedule
(R70, R84, R86, R171). -/

namespace Sys2Proof.Machine

/-- R86: the word is judged first. -/
theorem readLine_of_illegal {regBits : Nat} {l : Line} (h : decode regBits l.2 = .error .illegal) :
    readLine regBits l = .error .illegalWord := by
  rw [readLine, h]

/-- R84: a legal word of another agent than the one its line names. -/
theorem readLine_of_foreign {regBits : Nat} {a : Agent} {w : OpWord} {i : Instr} (h : decode regBits w = .ok i)
    (ha : a ≠ i.issuer) : readLine regBits (some a, w) = .error .wrongAgent := by
  simp only [readLine, h, if_neg ha]

theorem step_of_readLine_error {s : State} {r : Refusal} (h : readLine s.cfg.regBits s.takeLine.1 = .error r) :
    step s = .refused r := by
  rw [step, h]

theorem step_of_readLine_ok {s : State} {i : Instr} (h : readLine s.cfg.regBits s.takeLine.1 = .ok i) :
    step s = exec i s.takeLine.2 := by
  rw [step, h]

/-- Lines that read as operations do so one by one. -/
theorem readLines_cons_eq_ok {regBits : Nat} {l : Line} {rest : List Line} {ops : List Instr} :
    readLines regBits (l :: rest) = .ok ops ↔
      ∃ i is, readLine regBits l = .ok i ∧ readLines regBits rest = .ok is ∧ i :: is = ops := by
  cases hl : readLine regBits l with
  | error r => simp [readLines, hl]
  | ok i => cases hrest : readLines regBits rest <;> simp [readLines, hl, hrest]

theorem readLine_of_readLines_eq_ok {regBits : Nat} {lines : List Line} {ops : List Instr}
    (h : readLines regBits lines = .ok ops) : ∀ l ∈ lines, ∃ i, readLine regBits l = .ok i := by
  induction lines generalizing ops with
  | nil => exact nofun
  | cons l rest ih =>
    obtain ⟨i, is, hl, hrest, -⟩ := readLines_cons_eq_ok.mp h
    exact List.forall_mem_cons.mpr ⟨⟨i, hl⟩, ih hrest⟩

theorem judgeSchedule_of_readLines_error {c : Config} {lines : List Line} {r : Refusal}
    (h : readLines c.regBits lines = .error r) : judgeSchedule c lines = .error r := by
  rw [judgeSchedule, h]

theorem judgeSchedule_of_readLines_ok {c : Config} {lines : List Line} {ops : List Instr}
    (h : readLines c.regBits lines = .ok ops) :
    judgeSchedule c lines = checkOps c.prescaler SetupProgress.start ops := by
  rw [judgeSchedule, h]

/-- Settles O4: an illegal word's line has a verdict, so the step has it and the schedule cannot be read. -/
theorem illegalWordsAreRefused : Obligations.IllegalWordsAreRefused := by
  refine ⟨fun s h => step_of_readLine_error (readLine_of_illegal h), fun s lines h => ?load⟩
  case load =>
    obtain ⟨l, hl, hillegal⟩ := h
    cases hread : readLines s.cfg.regBits lines with
    | error r => exact ⟨r, load_eq_refused.mpr (judgeSchedule_of_readLines_error hread)⟩
    | ok ops =>
      obtain ⟨i, hi⟩ := readLine_of_readLines_eq_ok hread l hl
      exact nomatch (readLine_of_illegal hillegal).symm.trans hi

/-- Settles O5: the step answers the verdict on the line it takes. -/
theorem foreignAgentIsRefused : Obligations.ForeignAgentIsRefused := by
  intro s a w i hline hdecode ha
  apply step_of_readLine_error
  rw [hline]
  exact readLine_of_foreign hdecode ha

/-- Settles O6: a line that leaves its agent out or names the issuer reads as its word's operation. -/
theorem stepRunsTheDecodedOperation : Obligations.StepRunsTheDecodedOperation := by
  refine ⟨fun s a w i hline hdecode ha => step_of_readLine_ok ?read, fun s l rest h => ?placed, fun s h => ?free⟩
  case read =>
    rw [hline]
    exact readLine_eq_ok.mpr ⟨hdecode, ha⟩
  case placed => rw [State.takeLine, h]
  case free => rw [State.takeLine, h]

end Sys2Proof.Machine
end

section
/-! Guards and effects: where an operation is refused and where it has a step (R15, R37, R100), and what the
foreground's operations can write. -/

namespace Sys2Proof.Machine

/-- `WRCMP` past its guard answers a next state, the fault of R54 or the verdict on a table without the sample. -/
theorem execWrcmp_ne_guardFalse {s : State} (hpc : s.hpc = 2#3) : exec .wrcmp s ≠ .refused .guardFalse := by
  change execWrcmp s ≠ _
  rw [execWrcmp, if_pos (beq_iff_eq.mpr hpc)]
  split
  · split <;> simp
  · simp

/-- Settles O37: past a true guard, one operation issues its state and `WRCMP` has other answers. -/
theorem falseGuardsAreRefused : Obligations.FalseGuardsAreRefused := by
  intro i s
  refine ⟨fun h => ?refused, exec_of_guardOf_false⟩
  case refused =>
    by_cases hi : i = .wrcmp
    · subst hi
      exact Bool.eq_false_iff.mpr fun hpc => execWrcmp_ne_guardFalse (beq_iff_eq.mp hpc) h
    · obtain ⟨t, ht⟩ := exec_eq_issue hi s
      exact (issue_eq_refused.mp (ht.symm.trans h)).1

theorem exec_of_guardOf_true {i : Instr} {s : State} (hi : i ≠ .wrcmp) (h : guardOf i s = true) :
    ∃ t, exec i s = .next t := by
  obtain ⟨t, ht⟩ := exec_eq_issue hi s
  exact ⟨t, by rw [ht, h, issue_true]⟩

/-- Settles O38: `WRCMP` alone can stop past its guard, and the invariants give it a sample at `W0`. -/
theorem invariantStatesRunEveryGuardedOperation : Obligations.InvariantStatesRunEveryGuardedOperation := by
  intro i s hinv h
  by_cases hi : i = .wrcmp
  · subst hi
    obtain ⟨v, hv, -⟩ := State.exists_sample hinv.table hinv.w0Range
    exact ⟨_, execWrcmp_next.mpr ⟨beq_iff_eq.mp h, v, hv, rfl⟩⟩
  · exact exec_of_guardOf_true hi h

/-- R100: outside service the foreground is not held. -/
theorem exec_fg_out_of_service {i : Instr} {s : State} (hi : i.issuer = .fg) (h : s.hpc = 0#3) :
    ∃ t, exec i s = .next t := by
  refine exec_of_guardOf_true (fun hw => ?_) ?_
  · subst hw
    exact nomatch hi
  · rw [guardOf_of_issuer_fg hi]
    exact beq_iff_eq.mpr h

/-- R36: the control register, the divider and the buffer are all that the foreground can write. -/
theorem exec_fg_next {i : Instr} {s t : State} (hi : i.issuer = .fg) (h : exec i s = .next t) :
    ∃ ctrl div cmpb, t = { s with ctrl := ctrl, div := div, cmpb := cmpb } := by
  cases i with
  | idle => obtain ⟨-, rfl⟩ := execIdle_next.mp h; exact ⟨_, _, _, rfl⟩
  | setgie b => obtain ⟨-, rfl⟩ := execSetgie_next.mp h; exact ⟨_, _, _, rfl⟩
  | setmode b => obtain ⟨-, rfl⟩ := execSetmode_next.mp h; exact ⟨_, _, _, rfl⟩
  | setps c => obtain ⟨-, rfl⟩ := execSetps_next.mp h; exact ⟨_, _, _, rfl⟩
  | pinout => obtain ⟨-, rfl⟩ := execPinout_next.mp h; exact ⟨_, _, _, rfl⟩
  | install => obtain ⟨-, rfl⟩ := execInstall_next.mp h; exact ⟨_, _, _, rfl⟩
  | wrcmpb v => obtain ⟨-, rfl⟩ := execWrcmpb_next.mp h; exact ⟨_, _, _, rfl⟩
  | _ => nomatch hi

/-- Settles O14: the elements of the statement are none of the three that the foreground can write. -/
theorem foregroundIsHeldInServiceOnly : Obligations.ForegroundIsHeldInServiceOnly := by
  intro i s hi
  refine ⟨exec_fg_in_service hi, fun hpc => ?free⟩
  case free =>
    obtain ⟨t, ht⟩ := exec_fg_out_of_service hi hpc
    refine ⟨t, ht, ?_⟩
    obtain ⟨ctrl, div, cmpb, rfl⟩ := exec_fg_next hi ht
    exact ⟨rfl, rfl, rfl, rfl, rfl, rfl, rfl, fun _ => rfl⟩

end Sys2Proof.Machine
end

section
/-! What each agent can write, and the access matrix (R33, R36); what SEQ keeps while it is in service (R180). -/

namespace Sys2Proof.Machine

/-- R123: the counter, and at a wrap `CMPA`, `OVF` and the bookkeeping, are all that a tick writes. -/
theorem State.tickEffect_writes (s : State) :
    ∃ cnt cmpa ovf ghost, s.tickEffect = { s with cnt := cnt, cmpa := cmpa, ovf := ovf, ghost := ghost } := by
  obtain ⟨-, h⟩ | ⟨-, h⟩ := s.tickEffect_cases <;> rw [h] <;> exact ⟨_, _, _, _, rfl⟩

/-- R122: a clock writes the divider beside what a tick writes. -/
theorem State.clockEffect_writes (s : State) :
    ∃ div cnt cmpa ovf ghost,
      s.clockEffect = { s with div := div, cnt := cnt, cmpa := cmpa, ovf := ovf, ghost := ghost } := by
  obtain ⟨-, h⟩ | ⟨-, -, h⟩ | ⟨-, -, h⟩ := s.clockEffect_cases <;> rw [h]
  · exact ⟨_, _, _, _, _, rfl⟩
  · exact ⟨_, _, _, _, _, rfl⟩
  · obtain ⟨cnt, cmpa, ovf, ghost, htick⟩ := State.tickEffect_writes { s with div := 0#10 }
    exact ⟨0#10, cnt, cmpa, ovf, ghost, htick⟩

/-- Settles O36: each operation's next state names the elements it writes. -/
theorem writersOfEachElement : Obligations.WritersOfEachElement := by
  intro i s t h
  have htable := (exec_next_build h).table
  cases i with
  | idle => obtain ⟨-, rfl⟩ := execIdle_next.mp h; simp
  | setgie b => obtain ⟨-, rfl⟩ := execSetgie_next.mp h; simpa using htable
  | setmode b => obtain ⟨-, rfl⟩ := execSetmode_next.mp h; simpa using htable
  | setps c => obtain ⟨-, rfl⟩ := execSetps_next.mp h; simpa using htable
  | pinout => obtain ⟨-, rfl⟩ := execPinout_next.mp h; simpa using htable
  | install => obtain ⟨-, rfl⟩ := execInstall_next.mp h; simpa using htable
  | wrcmpb v => obtain ⟨-, rfl⟩ := execWrcmpb_next.mp h; simpa using htable
  | reset => obtain rfl := execReset_next.mp h; simpa using htable
  | clk =>
    obtain ⟨div, cnt, cmpa, ovf, ghost, hclock⟩ := s.clockEffect_writes
    obtain rfl := hclock.symm.trans (execClk_next.mp h)
    simpa using htable
  | tick =>
    obtain ⟨cnt, cmpa, ovf, ghost, htick⟩ := s.tickEffect_writes
    obtain rfl := htick.symm.trans (execTick_next.mp h).2
    simpa using htable
  | ienter => obtain ⟨-, rfl⟩ := execIenter_next.mp h; simpa [Instr.issuer] using htable
  | ldidx => obtain ⟨-, rfl⟩ := execLdidx_next.mp h; simpa [Instr.issuer] using htable
  | wrcmp => obtain ⟨-, v, -, rfl⟩ := execWrcmp_next.mp h; simpa [Instr.issuer] using htable
  | incidx => obtain ⟨-, rfl⟩ := execIncidx_next.mp h; simpa [Instr.issuer] using htable
  | mskidx => obtain ⟨-, rfl⟩ := execMskidx_next.mp h; simpa [Instr.issuer] using htable
  | iret => obtain ⟨-, rfl⟩ := execIret_next.mp h; simpa [Instr.issuer] using htable

/-- The operations of TMR keep the frame of the timer. -/
theorem exec_tmr_frame {i : Instr} {s t : State} (hi : i.issuer = .tmr) (h : exec i s = .next t) : TimerFrame s t := by
  cases i with
  | clk => obtain rfl := execClk_next.mp h; exact s.clockEffect_timerFrame
  | tick => obtain ⟨-, rfl⟩ := execTick_next.mp h; exact s.tickEffect_timerFrame
  | _ => nomatch hi

/-- R33: each handler step has its own `HPC` and moves on to the next. -/
theorem exec_seq_hpc {i : Instr} {s t : State} (hi : i.issuer = .seq) (h : exec i s = .next t) :
    s.hpc.toNat ≤ 5 ∧ t.hpc.toNat = (s.hpc.toNat + 1) % 6 := by
  cases i with
  | ienter => obtain ⟨⟨hpc, -⟩, rfl⟩ := execIenter_next.mp h; simp [hpc]
  | ldidx => obtain ⟨hpc, rfl⟩ := execLdidx_next.mp h; simp [hpc]
  | wrcmp => obtain ⟨hpc, v, -, rfl⟩ := execWrcmp_next.mp h; simp [hpc]
  | incidx => obtain ⟨hpc, rfl⟩ := execIncidx_next.mp h; simp [hpc]
  | mskidx => obtain ⟨hpc, rfl⟩ := execMskidx_next.mp h; simp [hpc]
  | iret => obtain ⟨hpc, rfl⟩ := execIret_next.mp h; simp [hpc]
  | _ => nomatch hi

/-- Settles O35: SEQ alone writes `HPC`, one step at a time. -/
theorem handlerStepsFollowOneAnother : Obligations.HandlerStepsFollowOneAnother := by
  intro i s t h
  refine ⟨fun hi => exec_seq_hpc hi h, ?others⟩
  case others =>
    rintro (hi | hi)
    · obtain ⟨ctrl, div, cmpb, rfl⟩ := exec_fg_next hi h
      rfl
    · exact congrArg SeqView.hpc (exec_tmr_frame hi h).seqView

/-- What holds while SEQ is in service and stays so until its `IRET` (R178, R180). -/
structure StillInService (s t : State) : Prop where
  hpc : t.hpc ≠ 0#3
  gie : t.ctrl.gie = false
  nIsr : t.ghost.nIsr = s.ghost.nIsr

theorem exec_in_service {i : Instr} {s t : State} (hpc : s.hpc ≠ 0#3) (hgie : s.ctrl.gie = false) (hreset : i ≠ .reset)
    (hiret : i ≠ .iret) (h : exec i s = .next t) : StillInService s t := by
  cases i with
  | idle | setgie | setmode | setps | pinout | install | wrcmpb =>
    exact nomatch (exec_fg_in_service rfl hpc).symm.trans h
  | reset => exact absurd rfl hreset
  | clk | tick =>
    have hframe := exec_tmr_frame rfl h
    have hkept : t.hpc = s.hpc := congrArg SeqView.hpc hframe.seqView
    exact ⟨hkept ▸ hpc, (congrArg Ctrl.gie hframe.ctrl).trans hgie, congrArg SeqView.nIsr hframe.seqView⟩
  | ienter => exact absurd (execIenter_next.mp h).1.1 hpc
  | ldidx => obtain ⟨-, rfl⟩ := execLdidx_next.mp h; exact ⟨by simp, hgie, rfl⟩
  | wrcmp => obtain ⟨-, v, -, rfl⟩ := execWrcmp_next.mp h; exact ⟨by simp, hgie, rfl⟩
  | incidx => obtain ⟨-, rfl⟩ := execIncidx_next.mp h; exact ⟨by simp, hgie, rfl⟩
  | mskidx => obtain ⟨-, rfl⟩ := execMskidx_next.mp h; exact ⟨by simp, hgie, rfl⟩
  | iret => exact absurd rfl hiret

theorem runOps_in_service {ops : List Instr} {s t : State} (hpc : s.hpc ≠ 0#3) (hgie : s.ctrl.gie = false)
    (hreset : Instr.reset ∉ ops) (hiret : Instr.iret ∉ ops) (h : runOps ops s = .next t) : StillInService s t := by
  induction ops generalizing s with
  | nil => cases h; exact ⟨hpc, hgie, rfl⟩
  | cons i rest ih =>
    obtain ⟨u, hu, ht⟩ := runOps_cons_next.mp h
    obtain ⟨hi, hrest⟩ := not_or.mp (mt List.mem_cons.mpr hreset)
    obtain ⟨hi', hrest'⟩ := not_or.mp (mt List.mem_cons.mpr hiret)
    have hstep := exec_in_service hpc hgie (Ne.symm hi) (Ne.symm hi') hu
    have hrun := ih hstep.hpc hstep.gie hrest hrest' ht
    exact { hrun with nIsr := hrun.nIsr.trans hstep.nIsr }

/-- Settles O45: the mask of R37 item 5 holds at the start and the run keeps it; with `GIE = 0` there is no entry. -/
theorem invocationsDoNotNest : Obligations.InvocationsDoNotNest := by
  intro ops s t hinv hpc hreset hiret h
  have hrun := runOps_in_service hpc (hinv.serviceMask hpc).1 hreset hiret h
  exact ⟨hrun.hpc, hrun.gie, hrun.nIsr, execIenter_of_gie_false hrun.gie⟩

end Sys2Proof.Machine
end

section
/-! The bookkeeping of R39 is written and never read. -/

namespace Sys2Proof.Machine

/-- Two answers that differ at most in the bookkeeping of the next state. -/
inductive AgreeUpToGhost : Result → Result → Prop
  | next (t : State) (g : Ghost) : AgreeUpToGhost (.next t) (.next { t with ghost := g })
  | fault (r : Fault) : AgreeUpToGhost (.fault r) (.fault r)
  | refused (r : Refusal) : AgreeUpToGhost (.refused r) (.refused r)

theorem issue_agrees (guard : Bool) {t u : State} (h : ∃ g, { t with ghost := g } = u) :
    AgreeUpToGhost (issue guard t) (issue guard u) := by
  obtain ⟨g, rfl⟩ := h
  cases guard
  · exact .refused .guardFalse
  · exact .next t g

theorem State.tickEffect_with_ghost (s : State) (g : Ghost) :
    ∃ g', { s.tickEffect with ghost := g' } = State.tickEffect { s with ghost := g } := by
  have hsame : State.atTop { s with ghost := g } = s.atTop := rfl
  obtain ⟨htop, h⟩ | ⟨htop, h⟩ := s.tickEffect_cases <;> rw [h]
  · exact ⟨_, (State.tickEffect_of_atTop (hsame.trans htop)).symm⟩
  · exact ⟨_, (State.tickEffect_of_not_atTop (hsame.trans htop)).symm⟩

theorem State.clockEffect_with_ghost (s : State) (g : Ghost) :
    ∃ g', { s.clockEffect with ghost := g' } = State.clockEffect { s with ghost := g } := by
  have hsame : State.timerRuns { s with ghost := g } = s.timerRuns := rfl
  obtain ⟨hruns, h⟩ | ⟨hruns, hdue, h⟩ | ⟨hruns, hdue, h⟩ := s.clockEffect_cases <;> rw [h]
  · exact ⟨g, (State.clockEffect_of_stopped (hsame.trans hruns)).symm⟩
  · exact ⟨g, (State.clockEffect_of_not_due (hsame.trans hruns) (beq_eq_false_iff_ne.mp hdue)).symm⟩
  · rw [State.clockEffect_of_due (hsame.trans hruns) (State.tickDue_iff.mp hdue)]
    exact State.tickEffect_with_ghost { s with div := 0#10 } g

theorem execWrcmp_agrees (s : State) (g : Ghost) :
    AgreeUpToGhost (execWrcmp s) (execWrcmp { s with ghost := g }) := by
  have htable : State.table { s with ghost := g } s.w0 = s.table s.w0 := rfl
  unfold execWrcmp
  rw [htable]
  split
  · split
    · split
      · exact .next _ _
      · exact .refused _
    · exact .fault _
  · exact .refused _

theorem exec_agrees (i : Instr) (s : State) (g : Ghost) :
    AgreeUpToGhost (exec i s) (exec i { s with ghost := g }) := by
  cases i with
  | reset => exact .next s.clearRegisters g
  | clk => exact issue_agrees true (s.clockEffect_with_ghost g)
  | tick => exact issue_agrees s.timerRuns (s.tickEffect_with_ghost g)
  | wrcmp => exact execWrcmp_agrees s g
  | _ => exact issue_agrees _ ⟨_, rfl⟩

/-- Settles O58: the two answers agree, whichever of the three the first one is. -/
theorem bookkeepingIsNotObserved : Obligations.BookkeepingIsNotObserved := by
  intro i s g
  have hagree := exec_agrees i s g
  generalize exec i { s with ghost := g } = answer at hagree ⊢
  refine ⟨fun t h => ?next, fun r h => ?fault, fun r h => ?refused⟩ <;> rw [h] at hagree
  case next => cases hagree with | next _ g' => exact ⟨g', rfl⟩
  case fault => cases hagree; rfl
  case refused => cases hagree; rfl

end Sys2Proof.Machine
end

section
/-! Overflow events: which operation raises one, which takes one, and what the others leave of it (R124, R172, R176);
their accounting over a run. -/

namespace Sys2Proof.Machine

/-- No event is raised or taken: the flag, the active value and the counts of R39 stay. -/
structure NoEvent (s t : State) : Prop where
  cmpa : t.cmpa = s.cmpa
  ovf : t.ovf = s.ovf
  atrace : t.ghost.atrace = s.ghost.atrace
  nOvf : t.ghost.nOvf = s.ghost.nOvf
  nLost : t.ghost.nLost = s.ghost.nLost
  nIsr : t.ghost.nIsr = s.ghost.nIsr

/-- What an operation other than `RESET` does about events: a wrap raises one, an `IENTER` takes the pending one. -/
inductive EventStep (i : Instr) (s : State) : State → Prop where
  | wrap (hwraps : wrapsAt i s = true) (div : BitVec 10) : EventStep i s (State.wrap { s with div := div })
  | enter (hi : i = .ienter) (hovf : s.ovf = true) : EventStep i s s.enterInterrupt
  | none {t : State} (hwraps : wrapsAt i s = false) (h : NoEvent s t) : EventStep i s t

theorem State.tickEffect_event {s : State} (hruns : s.timerRuns = true) : EventStep .tick s s.tickEffect := by
  obtain ⟨htop, h⟩ | ⟨htop, h⟩ := s.tickEffect_cases <;> rw [h]
  · exact .wrap (by simp [wrapsAt, hruns, htop]) s.div
  · exact .none (by simp [wrapsAt, htop]) ⟨rfl, rfl, rfl, rfl, rfl, rfl⟩

theorem State.clockEffect_event (s : State) : EventStep .clk s s.clockEffect := by
  obtain ⟨hruns, h⟩ | ⟨-, hdue, h⟩ | ⟨hruns, hdue, h⟩ := s.clockEffect_cases <;> rw [h]
  · exact .none (by simp [wrapsAt, hruns]) ⟨rfl, rfl, rfl, rfl, rfl, rfl⟩
  · exact .none (by simp [wrapsAt, hdue]) ⟨rfl, rfl, rfl, rfl, rfl, rfl⟩
  · have hsame : State.atTop { s with div := 0#10 } = s.atTop := rfl
    obtain ⟨htop, h⟩ | ⟨htop, h⟩ := State.tickEffect_cases { s with div := 0#10 } <;> rw [h]
    · exact .wrap (by simp [wrapsAt, hruns, hdue, ← hsame, htop]) 0#10
    · exact .none (by simp [wrapsAt, ← hsame, htop]) ⟨rfl, rfl, rfl, rfl, rfl, rfl⟩

theorem exec_event {i : Instr} {s t : State} (hi : i ≠ .reset) (h : exec i s = .next t) : EventStep i s t := by
  cases i with
  | idle | setgie | setmode | setps | pinout | install | wrcmpb =>
    obtain ⟨ctrl, div, cmpb, rfl⟩ := exec_fg_next rfl h
    exact .none rfl ⟨rfl, rfl, rfl, rfl, rfl, rfl⟩
  | reset => exact absurd rfl hi
  | clk => obtain rfl := execClk_next.mp h; exact s.clockEffect_event
  | tick => obtain ⟨hruns, rfl⟩ := execTick_next.mp h; exact State.tickEffect_event hruns
  | ienter => obtain ⟨⟨-, hovf, -⟩, rfl⟩ := execIenter_next.mp h; exact .enter rfl hovf
  | ldidx => obtain ⟨-, rfl⟩ := execLdidx_next.mp h; exact .none rfl ⟨rfl, rfl, rfl, rfl, rfl, rfl⟩
  | wrcmp => obtain ⟨-, v, -, rfl⟩ := execWrcmp_next.mp h; exact .none rfl ⟨rfl, rfl, rfl, rfl, rfl, rfl⟩
  | incidx => obtain ⟨-, rfl⟩ := execIncidx_next.mp h; exact .none rfl ⟨rfl, rfl, rfl, rfl, rfl, rfl⟩
  | mskidx => obtain ⟨-, rfl⟩ := execMskidx_next.mp h; exact .none rfl ⟨rfl, rfl, rfl, rfl, rfl, rfl⟩
  | iret => obtain ⟨-, rfl⟩ := execIret_next.mp h; exact .none rfl ⟨rfl, rfl, rfl, rfl, rfl, rfl⟩

/-- Only the timer's two operations wrap the counter (R123). -/
theorem issuer_of_wrapsAt {i : Instr} {s : State} (h : wrapsAt i s = true) : i.issuer = .tmr := by
  cases i with
  | clk | tick => rfl
  | _ => nomatch h

/-- An operation that wraps the counter does what R123 and R124 say of the wrap, whatever its divider is. -/
theorem exec_of_wrapsAt {i : Instr} {s t : State} (hwraps : wrapsAt i s = true) (h : exec i s = .next t) :
    ∃ div, t = State.wrap { s with div := div } := by
  have htmr := issuer_of_wrapsAt hwraps
  have hi : i ≠ .reset := by rintro rfl; cases htmr
  cases exec_event hi h with
  | wrap _ div => exact ⟨div, rfl⟩
  | enter hi => subst hi; cases htmr
  | none hno => exact nomatch hwraps.symm.trans hno

/-- Settles O20: what is compared changes by the wrap alone, and a write of the buffer touches nothing the pin reads. -/
theorem bufferIsLatchedAtWrapsOnly : Obligations.BufferIsLatchedAtWrapsOnly := by
  intro i s t h
  refine ⟨fun hwraps => ?latched, fun hwraps hi => ?kept, fun hi => ?pin⟩
  case latched =>
    obtain ⟨div, rfl⟩ := exec_of_wrapsAt hwraps h
    exact ⟨rfl, rfl, rfl⟩
  case kept =>
    cases exec_event hi h with
    | wrap hw => exact nomatch hwraps.symm.trans hw
    | enter => rfl
    | none _ hno => exact hno.cmpa
  case pin =>
    obtain rfl | ⟨v, rfl⟩ := hi
    · obtain ⟨-, v, -, rfl⟩ := execWrcmp_next.mp h
      rfl
    · obtain ⟨-, rfl⟩ := execWrcmpb_next.mp h
      rfl

/-- Settles O21: the wrap counts one event, and one lost where the flag was set. -/
theorem pendingEventsCoalesce : Obligations.PendingEventsCoalesce := by
  intro i s t hwraps h
  obtain ⟨div, rfl⟩ := exec_of_wrapsAt hwraps h
  exact ⟨rfl, rfl, rfl, fun hovf => by simp [State.lostByWrap, hovf], fun hovf => by simp [State.lostByWrap, hovf]⟩

/-- The balance of program P4: the events that were raised are those served, those lost and the pending one. -/
def State.Accounted (s : State) : Prop :=
  s.ghost.nOvf = s.ghost.nIsr + s.ghost.nLost + (if s.ovf then 1 else 0)

theorem State.Accounted.exec {i : Instr} {s t : State} (hs : s.Accounted) (hi : i ≠ .reset) (h : exec i s = .next t) :
    t.Accounted := by
  unfold State.Accounted at hs ⊢
  cases exec_event hi h with
  | wrap =>
    change s.ghost.nOvf + 1 = s.ghost.nIsr + (s.ghost.nLost + if s.ovf then 1 else 0) + 1
    omega
  | enter _ hovf =>
    rw [hovf] at hs
    change s.ghost.nOvf = s.ghost.nIsr + 1 + s.ghost.nLost
    exact hs.trans (Nat.add_right_comm _ _ _)
  | none _ hno => rw [hno.nOvf, hno.nIsr, hno.nLost, hno.ovf, hs]

/-- Settles O22: no operation but `RESET` disturbs the balance. -/
theorem everyEventIsServedLostOrPending : Obligations.EveryEventIsServedLostOrPending := by
  intro ops s t hreset h hs
  change s.Accounted at hs
  change t.Accounted
  induction ops generalizing s with
  | nil => cases h; exact hs
  | cons i rest ih =>
    obtain ⟨u, hu, ht⟩ := runOps_cons_next.mp h
    obtain ⟨hi, hrest⟩ := not_or.mp (mt List.mem_cons.mpr hreset)
    exact ih u hrest ht (hs.exec (Ne.symm hi) hu)

end Sys2Proof.Machine
end

section
/-! Bursts of the timer: the clocks of one tick and the ticks of one period (R125, R127). -/

namespace Sys2Proof.Machine

@[simp] theorem State.tickEffect_div (s : State) : s.tickEffect.div = s.div := by
  obtain ⟨cnt, cmpa, ovf, ghost, h⟩ := s.tickEffect_writes
  rw [h]

/-- Settles O23: the clocks up to the last one are counted, and the last is the tick. -/
theorem clockBurstIsOneTick : Obligations.ClockBurstIsOneTick := by
  intro s hruns hdiv
  exact ⟨s.tickEffect, runOps_clk_presc hruns hdiv, execTick_next.mpr ⟨hruns, rfl⟩, s.tickEffect_div.trans hdiv⟩

/-- Ticks that do not pass `TOP` are counted one by one. -/
theorem runOps_tick_counts {s : State} (hruns : s.timerRuns = true) (k : Nat) (hk : s.cnt + k ≤ s.cfg.top) :
    runOps (List.replicate k .tick) s = .next { s with cnt := s.cnt + k } := by
  induction k with
  | zero => rfl
  | succ k ih =>
    have htick := State.tickEffect_of_lt_top (s := { s with cnt := s.cnt + k }) hk
    rw [List.replicate_succ', runOps_append_next]
    exact ⟨_, ih (Nat.le_of_succ_le hk), runOps_cons_next.mpr ⟨_, execTick_next.mpr ⟨hruns, htick⟩, rfl⟩⟩

/-- Settles O24: a period is the ticks up to `TOP`, the wrap, and the ticks from 0 back to the count it started at. -/
theorem fullPeriodWrapsOnce : Obligations.FullPeriodWrapsOnce := by
  intro s hruns hcnt
  have hperiod : 2 ^ s.cfg.timerBits = (s.cfg.top - s.cnt) + 1 + s.cnt := by
    have := Nat.two_pow_pos s.cfg.timerBits
    unfold Config.top at hcnt ⊢
    omega
  have hup := runOps_tick_counts hruns (s.cfg.top - s.cnt) (by omega)
  rw [Nat.add_sub_cancel' hcnt] at hup
  have hwrap := State.tickEffect_of_atTop (s := { s with cnt := s.cfg.top }) (State.atTop_iff.mpr rfl)
  have hback := runOps_tick_counts (s := State.wrap { s with cnt := s.cfg.top }) hruns s.cnt (by simpa using hcnt)
  rw [hperiod, List.replicate_add, List.replicate_succ']
  refine runOps_append_next.mpr ⟨_, runOps_append_next.mpr ⟨_, hup, runOps_cons_next.mpr
    ⟨_, execTick_next.mpr ⟨hruns, hwrap⟩, rfl⟩⟩, hback.trans ?_⟩
  simp only [State.wrap_cnt, Nat.zero_add]
  rfl

end Sys2Proof.Machine
end

section
/-! The output and the words of the registers: the comparison of the pin and its duty (R35, R126), the prescaler's codes
(R28), `CTRL` and `STAT` (R27, R34). -/

namespace Sys2Proof.Machine

/-- R35: a driven pin in comparing mode follows the comparison. -/
theorem State.pin_of_comparing {s : State} (hpoe : s.ctrl.poe = true) (hmode : s.ctrl.mode = true) :
    s.pin = if s.compareHolds then .high else .low := by
  simp [State.pin, hpoe, hmode]

theorem State.pin_eq_high_iff {s : State} (hpoe : s.ctrl.poe = true) (hmode : s.ctrl.mode = true) :
    s.pin = .high ↔ s.compareHolds = true := by
  rw [State.pin_of_comparing hpoe hmode]
  cases s.compareHolds <;> simp

/-- The number of low counts at which the comparison holds: `A` under `LT`, `A + 1` under `LE` (R126). -/
def State.highCounts (s : State) : Nat :=
  match s.cfg.pinRule with
  | .lt => s.cmpa
  | .le => s.cmpa + 1

/-- Under either rule the comparison holds at an initial segment of the counts. -/
theorem State.compareHolds_iff {s : State} : s.compareHolds = true ↔ s.cnt < s.highCounts := by
  unfold State.compareHolds State.highCounts
  cases s.cfg.pinRule
  · exact decide_eq_true_iff
  · exact decide_eq_true_iff.trans Nat.lt_succ_iff.symm

/-- Settles O25: the pin's branches, one by one. -/
theorem pinFollowsTheComparison : Obligations.PinFollowsTheComparison := by
  intro s
  refine ⟨State.pin_of_poe_false, State.pin_of_mode_false, fun hpoe hmode hrule => ?lt, fun hpoe hmode hrule => ?le⟩
  all_goals
    rw [State.pin_of_comparing hpoe hmode]
    simp [State.compareHolds, hrule]

/-- Of the numbers below `m`, those below `a` are `a` many. -/
theorem length_filter_range_lt {a m : Nat} (h : a ≤ m) : ((List.range m).filter fun k => k < a).length = a := by
  rw [← List.Ico.zero_bot, List.Ico.filter_lt, Nat.min_eq_right h, List.Ico.length, Nat.sub_zero]

theorem State.pin_at_eq_high_iff {s : State} (hpoe : s.ctrl.poe = true) (hmode : s.ctrl.mode = true) (k : Nat) :
    State.pin { s with cnt := k } = .high ↔ k < s.highCounts :=
  (State.pin_eq_high_iff (s := { s with cnt := k }) hpoe hmode).trans State.compareHolds_iff

theorem State.highTicks_eq {s : State} (hpoe : s.ctrl.poe = true) (hmode : s.ctrl.mode = true)
    (h : s.highCounts ≤ 2 ^ s.cfg.timerBits) : s.highTicks = s.highCounts := by
  unfold State.highTicks
  simp only [State.pin_at_eq_high_iff hpoe hmode]
  exact length_filter_range_lt h

/-- Settles O26: the pin is high at the counts below one bound, which does not exceed the period. -/
theorem dutyIsTheActiveValue : Obligations.DutyIsTheActiveValue := by
  intro s hpoe hmode hcmpa
  have hlt : s.cmpa < 2 ^ s.cfg.timerBits := Config.le_regMax_iff.mp hcmpa
  refine ⟨fun hrule => ?lt, fun hrule => ?le, fun j k hjk hk => ?once⟩
  case lt =>
    have hcounts : s.highCounts = s.cmpa := by rw [State.highCounts, hrule]
    rw [State.highTicks_eq hpoe hmode (hcounts ▸ hlt.le), hcounts]
  case le =>
    have hcounts : s.highCounts = s.cmpa + 1 := by rw [State.highCounts, hrule]
    rw [State.highTicks_eq hpoe hmode (hcounts ▸ hlt), hcounts]
  case once =>
    rw [State.pin_at_eq_high_iff hpoe hmode] at hk ⊢
    exact hjk.trans_lt hk

/-- R28: `PSCODE` is the inverse of `PRESC` on the running codes. -/
theorem pscode_eq_some_iff {p : Nat} {c : BitVec 3} : pscode p = some c ↔ c ≠ 0#3 ∧ presc c = p := by
  constructor
  · intro h
    unfold pscode at h
    split at h <;> cases h <;> decide
  · rintro ⟨hc, rfl⟩
    revert c
    decide

/-- R28: the numbers with a code are the seven factors. -/
theorem pscode_eq_none_iff {p : Nat} : pscode p = none ↔ p ∉ prescalerFactors := by
  refine ⟨fun h hp => ?_, pscode_eq_none⟩
  have hsome : ∀ q ∈ prescalerFactors, pscode q ≠ none := by decide
  exact hsome p hp h

/-- Settles O27: the factors of the codes are read off, and the inverse is stated above. -/
theorem prescalerCodesAndFactors : Obligations.PrescalerCodesAndFactors :=
  ⟨rfl, rfl, rfl, rfl, rfl, rfl, rfl, fun _ _ => pscode_eq_some_iff, fun _ => pscode_eq_none_iff⟩

/-- R27: the layout of `CTRL`, for each of its values. -/
theorem Ctrl.word_fields (r : Ctrl) :
    r.word.getLsbD 7 = r.gie ∧ r.word.getLsbD 6 = r.ovie ∧ r.word.getLsbD 5 = r.poe ∧ r.word.getLsbD 4 = r.mode ∧
      r.word.getLsbD 3 = false ∧ r.word.extractLsb' 0 3 = r.ps := by
  obtain ⟨ps, mode, poe, ovie, gie⟩ := r
  revert ps mode poe ovie gie
  decide

/-- R34: the layout of `STAT`. -/
theorem State.stat_fields (s : State) : s.stat.getLsbD 0 = s.ovf ∧ s.stat.extractLsb' 1 7 = 0#7 := by
  unfold State.stat
  cases s.ovf <;> decide

/-- Settles O28: the layouts of the two words. -/
theorem controlAndStatusWords : Obligations.ControlAndStatusWords := by
  intro s
  obtain ⟨hgie, hovie, hpoe, hmode, hzero, hps⟩ := s.ctrl.word_fields
  exact ⟨hgie, hovie, hpoe, hmode, hzero, hps, s.stat_fields⟩

end Sys2Proof.Machine
end

section
/-! The index advance at every storage width that holds an index (R151). -/

namespace Sys2Proof.Machine

/-- R6: each of the three table lengths is `2 ^ IDX_BITS`, whatever the other parameters are. -/
theorem n_eq_two_pow_of_mem {c : Config} (h : c.n ∈ [256, 512, 1024]) : c.n = 2 ^ c.idxBits := by
  have hpow : ∀ n ∈ [256, 512, 1024], n = 2 ^ Nat.log2 n := by decide
  exact hpow c.n h

/-- R151: storing in a width of at least `IDX_BITS` bits and masking is reduction modulo `N`, since `N` divides the
storage modulus. -/
theorem trunc_and_mask {c : Config} (hn : c.n ∈ [256, 512, 1024]) (hw : c.idxBits ≤ c.idxw) (v : Nat) :
    trunc c.idxw v &&& c.mask = v % c.n := by
  have hpow := n_eq_two_pow_of_mem hn
  rw [Config.mask, hpow, Nat.and_two_pow_sub_one_eq_mod]
  exact Nat.mod_mod_of_dvd v (Nat.pow_dvd_pow 2 hw)

/-- Settles O39: the two operations store the increment and mask what is stored. -/
theorem indexAdvanceIndependentOfWidth : Obligations.IndexAdvanceIndependentOfWidth := by
  intro s hpc hn hw _
  rw [← trunc_and_mask hn hw]
  exact runOps_cons_next.mpr ⟨_, execIncidx_next.mpr ⟨hpc, rfl⟩,
    runOps_cons_next.mpr ⟨_, execMskidx_next.mpr ⟨rfl, rfl⟩, rfl⟩⟩

end Sys2Proof.Machine
end

section
/-! The path from write to pin under the deadline premise: what the handler writes is applied one wrap at a time, in
order and without loss (R150, R212, R213). -/

namespace Sys2Proof.Machine

/-- The buffer holds a value that no wrap has applied yet: no event is pending, and the handler, if in service, has
written. -/
def State.bufferAhead (u : State) : Bool := !u.ovf && (u.hpc == 0#3 || decide (3 ≤ u.hpc.toNat))

/-- The values that the wraps of a run from `s` apply, when its handler has written `written`: the buffer's first value
comes before them where no event is pending at the start. -/
def State.toApply (s : State) (written : List Nat) : List Nat := if s.ovf then written else s.cmpb :: written

theorem State.toApply_append (s : State) (written : List Nat) (v : Nat) :
    s.toApply (written ++ [v]) = s.toApply written ++ [v] := by
  unfold State.toApply
  cases s.ovf <;> rfl

theorem State.length_toApply (s : State) (written : List Nat) :
    (s.toApply written).length + (if s.ovf then 1 else 0) = written.length + 1 := by
  unfold State.toApply
  cases s.ovf <;> rfl

/-- Where a run from the idle, live state `s` stands after it has written `written` and applied `applied`: all that is
to be applied has been, but for the buffer's value where that is ahead. -/
structure InOrder (s u : State) (written applied : List Nat) : Prop where
  wtrace : u.ghost.wtrace = s.ghost.wtrace ++ written
  atrace : u.ghost.atrace = s.ghost.atrace ++ applied
  nLost : u.ghost.nLost = s.ghost.nLost
  cmpa : u.cmpa = applied.getLastD s.cmpa
  order : s.toApply written = applied ++ if u.bufferAhead then [u.cmpb] else []
  live : u.liveOrInService = true
  idle : u.ovf = true → u.hpc = 0#3

theorem InOrder.refl {s : State} (hpc : s.hpc = 0#3) (hlive : s.live = true) : InOrder s s [] [] where
  wtrace := (List.append_nil _).symm
  atrace := (List.append_nil _).symm
  nLost := rfl
  cmpa := rfl
  order := by cases hovf : s.ovf <;> simp [State.toApply, State.bufferAhead, hovf, hpc]
  live := State.liveOrInService_of_live hlive
  idle _ := hpc

section
variable {s u t : State} {written applied : List Nat}

theorem InOrder.timer (h : InOrder s u written applied) (hframe : TimerFrame u t) (hno : NoEvent u t) :
    InOrder s t written applied := by
  have hhpc : t.hpc = u.hpc := congrArg SeqView.hpc hframe.seqView
  have hahead : t.bufferAhead = u.bufferAhead := by rw [State.bufferAhead, hno.ovf, hhpc, State.bufferAhead]
  exact
  { wtrace := (congrArg SeqView.wtrace hframe.seqView).trans h.wtrace
    atrace := hno.atrace.trans h.atrace
    nLost := hno.nLost.trans h.nLost
    cmpa := hno.cmpa.trans h.cmpa
    order := by rw [hahead, hframe.cmpb, h.order]
    live := by rw [State.liveOrInService, hframe.ctrl, hhpc]; exact h.live
    idle := fun hovf => hhpc.trans (h.idle (hno.ovf.symm.trans hovf)) }

/-- A wrap that meets the deadline finds the buffer ahead and applies its value. -/
theorem InOrder.wrap (h : InOrder s u written applied) (hmet : u.deadlineMet = true) (div : BitVec 10) :
    InOrder s (State.wrap { u with div := div }) written (applied ++ [u.cmpb]) := by
  obtain ⟨hovf, hpc⟩ : u.ovf = false ∧ u.hpc = 0#3 := by simpa [State.deadlineMet] using hmet
  exact
  { wtrace := h.wtrace
    atrace := by simp [h.atrace]
    nLost := by simp [h.nLost, State.lostByWrap, hovf]
    cmpa := by simp
    order := by simp [h.order, State.bufferAhead, hovf, hpc]
    live := h.live
    idle := fun _ => hpc }

/-- The handler's entry clears the flag, and the buffer is ahead again only once the handler has written. -/
theorem InOrder.ienter (h : InOrder s u written applied) (hovf : u.ovf = true) :
    InOrder s u.enterInterrupt written applied where
  wtrace := h.wtrace
  atrace := h.atrace
  nLost := h.nLost
  cmpa := h.cmpa
  order := by simp [h.order, State.bufferAhead, hovf]
  live := by
    have hlive := h.live
    simp only [State.liveOrInService, Bool.and_eq_true] at hlive
    simp [State.liveOrInService, hlive]
  idle := nofun

/-- No event is pending while the handler is in service. -/
theorem InOrder.ovf_eq_false (h : InOrder s u written applied) (hpc : u.hpc ≠ 0#3) : u.ovf = false :=
  Bool.eq_false_iff.mpr (mt h.idle hpc)

/-- A handler step inside the service that writes no buffer keeps the buffer where it is. -/
theorem InOrder.inService (h : InOrder s u written applied) {k : BitVec 3} {idx w0 : Nat} (hpc : u.hpc ≠ 0#3)
    (hk : k ≠ 0#3) (hsame : 3 ≤ k.toNat ↔ 3 ≤ u.hpc.toNat) :
    InOrder s { u with idx := idx, w0 := w0, hpc := k } written applied :=
  { h with
    order := by simpa [State.bufferAhead, hpc, hk, hsame] using h.order
    live := by
      have hlive := h.live
      simp only [State.liveOrInService, Bool.and_eq_true] at hlive
      simp [State.liveOrInService, hlive, hk]
    idle := fun hovf => absurd (h.idle hovf) hpc }

theorem InOrder.wrcmp (h : InOrder s u written applied) (hpc : u.hpc = 2#3) (v : Nat) :
    InOrder s (u.writeSample v) (written ++ [trunc u.cfg.regBits v]) applied where
  wtrace := by simp [h.wtrace]
  atrace := h.atrace
  nLost := h.nLost
  cmpa := h.cmpa
  order := by simp [State.toApply_append, h.order, State.bufferAhead, hpc, h.ovf_eq_false (by simp [hpc])]
  live := by simpa [State.liveOrInService, hpc] using h.live
  idle hovf := absurd (h.idle hovf) (by simp [hpc])

theorem InOrder.iret (h : InOrder s u written applied) (hpc : u.hpc = 5#3) :
    InOrder s u.returnFromInterrupt written applied where
  wtrace := h.wtrace
  atrace := h.atrace
  nLost := h.nLost
  cmpa := h.cmpa
  order := by simpa [State.bufferAhead, hpc] using h.order
  live := by simpa [State.liveOrInService, hpc] using h.live
  idle _ := rfl

/-- One operation of a run that meets the deadline keeps the order. -/
theorem InOrder.exec {i : Instr} (h : InOrder s u written applied)
    (hi : i = .idle ∨ i.issuer = .tmr ∨ i.issuer = .seq)
    (hmet : wrapsAt i u = true → u.liveOrInService = true → u.deadlineMet = true) (ht : exec i u = .next t) :
    ∃ written applied, InOrder s t written applied := by
  cases i with
  | idle => obtain ⟨-, rfl⟩ := execIdle_next.mp ht; exact ⟨_, _, h⟩
  | setgie | setmode | setps | pinout | install | wrcmpb | reset => simp [Instr.issuer] at hi
  | clk | tick =>
    cases exec_event (by simp) ht with
    | wrap hwraps div => exact ⟨_, _, h.wrap (hmet hwraps h.live) div⟩
    | enter hi => cases hi
    | none _ hno => exact ⟨_, _, h.timer (exec_tmr_frame rfl ht) hno⟩
  | ienter => obtain ⟨⟨-, hovf, -⟩, rfl⟩ := execIenter_next.mp ht; exact ⟨_, _, h.ienter hovf⟩
  | ldidx =>
    obtain ⟨hpc, rfl⟩ := execLdidx_next.mp ht
    exact ⟨_, _, h.inService (by simp [hpc]) (by decide) (by simp [hpc])⟩
  | wrcmp => obtain ⟨hpc, v, -, rfl⟩ := execWrcmp_next.mp ht; exact ⟨_, _, h.wrcmp hpc v⟩
  | incidx =>
    obtain ⟨hpc, rfl⟩ := execIncidx_next.mp ht
    exact ⟨_, _, h.inService (by simp [hpc]) (by decide) (by simp [hpc])⟩
  | mskidx =>
    obtain ⟨hpc, rfl⟩ := execMskidx_next.mp ht
    exact ⟨_, _, h.inService (by simp [hpc]) (by decide) (by simp [hpc])⟩
  | iret => obtain ⟨hpc, rfl⟩ := execIret_next.mp ht; exact ⟨_, _, h.iret hpc⟩

theorem InOrder.run {ops : List Instr} (h : InOrder s u written applied)
    (hops : ∀ i ∈ ops, i = .idle ∨ i.issuer = .tmr ∨ i.issuer = .seq) (hmet : MeetsDeadline ops u)
    (ht : runOps ops u = .next t) : ∃ written applied, InOrder s t written applied := by
  induction ops generalizing u written applied with
  | nil => cases ht; exact ⟨_, _, h⟩
  | cons i rest ih =>
    obtain ⟨w, hw, ht⟩ := runOps_cons_next.mp ht
    obtain ⟨hi, hrest⟩ := List.forall_mem_cons.mp hops
    obtain ⟨hnow, hlater⟩ := hmet
    obtain ⟨_, _, h'⟩ := h.exec hi hnow hw
    exact ih h' hrest (hlater w hw) ht

end

/-- Settles O43: the order is kept from the start, where nothing is written and nothing applied; at the end what is not
applied is at most the one value in the buffer. -/
theorem writtenValuesReachThePinInOrder : Obligations.WrittenValuesReachThePinInOrder := by
  intro ops s t _ hpc hlive hops hmet ht
  obtain ⟨written, applied, h⟩ := (InOrder.refl hpc hlive).run hops hmet ht
  refine ⟨written, applied, h.wtrace, h.atrace, ⟨_, h.order.symm⟩, ?length, h.cmpa, h.nLost⟩
  case length =>
    have hlength := s.length_toApply written
    rw [h.order, List.length_append] at hlength
    have hone : (if t.bufferAhead then [t.cmpb] else []).length ≤ 1 := by cases t.bufferAhead <;> simp
    omega

end Sys2Proof.Machine
end

section
/-! The ROM: what it reads after one sample or a table is programmed (R11, R52, R53), and that its form is canonical. -/

namespace Sys2Proof.Machine

/-! ## Cells -/

theorem Memory.lookup_cons (a v i : Nat) (m : Memory) :
    Memory.lookup ((a, v) :: m) i = if a = i then some v else Memory.lookup m i := rfl

theorem Memory.lookup_insert_self (i v : Nat) : ∀ m : Memory, Memory.lookup (Memory.insert i v m) i = some v
  | [] => if_pos rfl
  | (a, u) :: m => by
    unfold Memory.insert
    split_ifs with _ ha
    · exact if_pos rfl
    · exact if_pos rfl
    · rw [Memory.lookup_cons, if_neg ha, Memory.lookup_insert_self]

theorem Memory.lookup_insert_of_ne {i j : Nat} (v : Nat) (h : j ≠ i) :
    ∀ m : Memory, Memory.lookup (Memory.insert i v m) j = Memory.lookup m j
  | [] => if_neg h.symm
  | (a, u) :: m => by
    unfold Memory.insert
    split_ifs with _ ha
    · exact if_neg h.symm
    · rw [Memory.lookup_cons, Memory.lookup_cons, if_neg h.symm, if_neg (ha ▸ h.symm)]
    · rw [Memory.lookup_cons, Memory.lookup_cons, Memory.lookup_insert_of_ne v h]

theorem Memory.lookup_erase_of_ne {i j : Nat} (h : j ≠ i) :
    ∀ m : Memory, Memory.lookup (Memory.erase i m) j = Memory.lookup m j
  | [] => rfl
  | (a, u) :: m => by
    unfold Memory.erase
    split_ifs with ha
    · rw [Memory.lookup_cons, if_neg (ha ▸ h.symm)]
    · rw [Memory.lookup_cons, Memory.lookup_cons, Memory.lookup_erase_of_ne h]

/-- Cells in rising order list nothing below the bound they start at. -/
theorem Memory.lookup_of_lt {c : Config} :
    ∀ {m : Memory} {lo i : Nat}, Memory.wfFrom c lo m = true → i < lo → Memory.lookup m i = none
  | [], _, _, _, _ => rfl
  | (a, v) :: m, lo, i, hm, hi => by
    obtain ⟨hlo, -, -, hrest⟩ := Memory.wfFrom_cons.mp hm
    rw [Memory.lookup_cons, if_neg (by omega), Memory.lookup_of_lt hrest (by omega)]

/-- In rising order an index has one cell at most, so that taking it out leaves none. -/
theorem Memory.lookup_erase_self {c : Config} (i : Nat) :
    ∀ {m : Memory} {lo : Nat}, Memory.wfFrom c lo m = true → Memory.lookup (Memory.erase i m) i = none
  | [], _, _ => rfl
  | (a, v) :: m, lo, hm => by
    obtain ⟨-, -, -, hrest⟩ := Memory.wfFrom_cons.mp hm
    unfold Memory.erase
    split_ifs with ha
    · exact Memory.lookup_of_lt hrest (by omega)
    · rw [Memory.lookup_cons, if_neg ha, Memory.lookup_erase_self i hrest]

/-- A listed cell is in range and does not repeat the unlisted sample. -/
theorem Memory.of_lookup_eq_some {c : Config} :
    ∀ {m : Memory} {lo i v : Nat}, Memory.wfFrom c lo m = true → Memory.lookup m i = some v →
      i < c.n ∧ unlistedSample c i ≠ some v
  | (a, u) :: m, lo, i, v, hm, h => by
    obtain ⟨-, hn, hne, hrest⟩ := Memory.wfFrom_cons.mp hm
    rw [Memory.lookup_cons] at h
    split_ifs at h with ha
    · cases h
      exact ha ▸ ⟨hn, hne⟩
    · exact Memory.of_lookup_eq_some hrest h

/-! ## Reads -/

theorem Memory.read_of_lt {c : Config} (m : Memory) {i : Nat} (h : i < c.n) :
    Memory.read c m i = (Memory.lookup m i).or (unlistedSample c i) := if_pos h

/-- R54: nothing is read at or past `N`. -/
theorem Memory.read_of_ge {c : Config} (m : Memory) {i : Nat} (h : c.n ≤ i) : Memory.read c m i = none :=
  if_neg h.not_gt

/-- A read is told by the cell of its index. -/
theorem Memory.read_congr {c : Config} {m₁ m₂ : Memory} {i : Nat} (h : Memory.lookup m₁ i = Memory.lookup m₂ i) :
    Memory.read c m₁ i = Memory.read c m₂ i := by
  rw [Memory.read, Memory.read, h]

theorem Memory.read_write_self {c : Config} {m : Memory} {i : Nat} (v : Nat) (hm : Memory.wf c m = true)
    (hi : i < c.n) : Memory.read c (Memory.write c m i v) i = some v := by
  rw [Memory.read_of_lt _ hi, Memory.write, if_pos hi]
  split_ifs with hv
  · rw [Memory.lookup_erase_self i hm, Option.none_or, hv]
  · rw [Memory.lookup_insert_self, Option.some_or]

theorem Memory.read_write_of_ne {c : Config} (m : Memory) {i j : Nat} (v : Nat) (h : j ≠ i) :
    Memory.read c (Memory.write c m i v) j = Memory.read c m j := by
  apply Memory.read_congr
  unfold Memory.write
  split_ifs
  · exact Memory.lookup_erase_of_ne h m
  · exact Memory.lookup_insert_of_ne v h m
  · rfl

/-- Settles O51: the cell of the index is written or taken out, and no other is touched. -/
theorem tableWritesAreLocal : Obligations.TableWritesAreLocal :=
  fun _ m _ v hm hi => ⟨Memory.read_write_self v hm hi, fun _ hj => Memory.read_write_of_ne m v hj⟩

/-- Programming from index `i` on leaves what lies below `i`. -/
theorem Memory.read_programFrom_of_lt {c : Config} :
    ∀ (l : List Nat) {i j : Nat} (m : Memory), j < i →
      Memory.read c (Memory.programFrom c m i l) j = Memory.read c m j
  | [], _, _, _, _ => rfl
  | v :: l, i, j, m, h => by
    rw [Memory.programFrom, Memory.read_programFrom_of_lt l _ (by omega), Memory.read_write_of_ne m v h.ne]

/-- The samples programmed from index `i` on read back from there on. -/
theorem Memory.read_programFrom {c : Config} :
    ∀ {l : List Nat} {i k : Nat} {m : Memory}, Memory.wf c m = true → i + l.length ≤ c.n → k < l.length →
      Memory.read c (Memory.programFrom c m i l) (i + k) = l[k]?
  | v :: l, i, 0, m, hm, hn, _ => by
    rw [List.length_cons] at hn
    rw [Nat.add_zero, Memory.programFrom, Memory.read_programFrom_of_lt l _ (Nat.lt_succ_self i),
      Memory.read_write_self v hm (by omega), List.getElem?_cons_zero]
  | v :: l, i, k + 1, m, hm, hn, hk => by
    rw [List.length_cons] at hn hk
    rw [Memory.programFrom, List.getElem?_cons_succ, show i + (k + 1) = i + 1 + k by omega]
    exact Memory.read_programFrom (Memory.write_wf i v hm) (by omega) (by omega)

/-- R53, R58: a table with one sample for each index reads as it was given. -/
theorem Memory.read_program {c : Config} {l : List Nat} (h : l.length = c.n) (i : Nat) :
    Memory.read c (Memory.program c l) i = l[i]? := by
  obtain hi | hi := lt_or_ge i c.n
  · simpa [Memory.program] using Memory.read_programFrom (c := c) (i := 0) (m := []) rfl (by omega) (h ▸ hi)
  · rw [Memory.read_of_ge _ hi, List.getElem?_eq_none (h ▸ hi)]

/-! ## The canonical form -/

/-- In canonical form a read tells the cell: a listed sample is not the unlisted one. -/
theorem Memory.lookup_eq_of_read_eq {c : Config} {m₁ m₂ : Memory} (h₁ : Memory.wf c m₁ = true)
    (h₂ : Memory.wf c m₂ = true) {i : Nat} (h : Memory.read c m₁ i = Memory.read c m₂ i) :
    Memory.lookup m₁ i = Memory.lookup m₂ i := by
  cases hl₁ : Memory.lookup m₁ i with
  | some v =>
    obtain ⟨hi, hne⟩ := Memory.of_lookup_eq_some h₁ hl₁
    rw [Memory.read_of_lt m₁ hi, Memory.read_of_lt m₂ hi, hl₁, Option.some_or] at h
    cases hl₂ : Memory.lookup m₂ i with
    | some u => rwa [hl₂, Option.some_or] at h
    | none => rw [hl₂, Option.none_or] at h; exact absurd h.symm hne
  | none =>
    cases hl₂ : Memory.lookup m₂ i with
    | some u =>
      obtain ⟨hi, hne⟩ := Memory.of_lookup_eq_some h₂ hl₂
      rw [Memory.read_of_lt m₁ hi, Memory.read_of_lt m₂ hi, hl₁, hl₂, Option.none_or, Option.some_or] at h
      exact absurd h hne
    | none => rfl

/-- Cells in rising order that list alike are the same cells: the first indices agree, since the smaller of two would
be listed on one side alone. -/
theorem Memory.eq_of_lookup_eq {c : Config} :
    ∀ {m₁ m₂ : Memory} {lo : Nat}, Memory.wfFrom c lo m₁ = true → Memory.wfFrom c lo m₂ = true →
      (∀ i, Memory.lookup m₁ i = Memory.lookup m₂ i) → m₁ = m₂
  | [], [], _, _, _, _ => rfl
  | [], (a, v) :: _, _, _, _, h => nomatch (h a).trans (if_pos rfl)
  | (a, v) :: _, [], _, _, _, h => nomatch (h a).symm.trans (if_pos rfl)
  | (a, v) :: m₁, (b, u) :: m₂, lo, h₁, h₂, h => by
    obtain ⟨-, -, -, hrest₁⟩ := Memory.wfFrom_cons.mp h₁
    obtain ⟨-, -, -, hrest₂⟩ := Memory.wfFrom_cons.mp h₂
    simp only [Memory.lookup_cons] at h
    have hle : a ≤ b := by
      by_contra hlt
      have hb := h b
      rw [if_neg (by omega), if_pos rfl, Memory.lookup_of_lt hrest₁ (by omega)] at hb
      cases hb
    have hge : b ≤ a := by
      by_contra hlt
      have ha := h a
      rw [if_pos rfl, if_neg (by omega), Memory.lookup_of_lt hrest₂ (by omega)] at ha
      cases ha
    obtain rfl : a = b := le_antisymm hle hge
    obtain rfl : v = u := by simpa using h a
    have hrest (i : Nat) : Memory.lookup m₁ i = Memory.lookup m₂ i := by
      by_cases hi : a = i
      · subst hi
        rw [Memory.lookup_of_lt hrest₁ a.lt_succ_self, Memory.lookup_of_lt hrest₂ a.lt_succ_self]
      · simpa [hi] using h i
    rw [Memory.eq_of_lookup_eq hrest₁ hrest₂ hrest]

/-- Settles O52: reading alike is listing alike, and the rising order leaves one list of cells. -/
theorem romFormIsCanonical : Obligations.RomFormIsCanonical :=
  fun _ _ _ h₁ h₂ h => Memory.eq_of_lookup_eq h₁ h₂ fun i => Memory.lookup_eq_of_read_eq h₁ h₂ (h i)

end Sys2Proof.Machine
end

section
/-! The default tables: rows and index, and the checks printed beside them (R62, R63). -/

namespace Sys2Proof.Machine

/-- Lines of `w` entries each, read one after another: entry `i` stands in line `i / w` at place `i % w`. -/
theorem getElem?_flatten_of_length {α : Type} {w : Nat} (hw : 0 < w) :
    ∀ {rows : List (List α)} {i : Nat}, (∀ row ∈ rows, row.length = w) →
      rows.flatten[i]? = rows[i / w]?.bind fun row => row[i % w]?
  | [], i, _ => by simp
  | row :: rows, i, h => by
    obtain ⟨hrow, hrows⟩ := List.forall_mem_cons.mp h
    rw [List.flatten_cons]
    obtain hi | hi := lt_or_ge i w
    · rw [List.getElem?_append_left (hrow ▸ hi), Nat.div_eq_of_lt hi, Nat.mod_eq_of_lt hi, List.getElem?_cons_zero,
        Option.bind_some]
    · rw [List.getElem?_append_right (hrow ▸ hi), hrow, getElem?_flatten_of_length hw hrows,
        Nat.div_eq_sub_div hw hi, Nat.mod_eq_sub_mod hi, List.getElem?_cons_succ]

/-- The tables are printed in rows of sixteen. -/
theorem length_of_mem_defaultRows {n : Nat} (hn : n ∈ [256, 512, 1024]) : ∀ row ∈ defaultRows n, row.length = 16 := by
  have hrows : ∀ n ∈ [256, 512, 1024], ∀ row ∈ defaultRows n, row.length = 16 := by decide +kernel
  exact hrows n hn

theorem defaultSample_eq_getElem? {n : Nat} (hn : n ∈ [256, 512, 1024]) (i : Nat) :
    defaultSample n i = (defaultTable n)[i]? := by
  rw [defaultTable, getElem?_flatten_of_length (by decide) (length_of_mem_defaultRows hn), defaultSample]
  cases (defaultRows n)[i / 16]? <;> rfl

theorem length_defaultTable {n : Nat} (hn : n ∈ [256, 512, 1024]) : (defaultTable n).length = n := by
  have hlength : ∀ n ∈ [256, 512, 1024], (defaultTable n).length = n := by decide +kernel
  exact hlength n hn

/-- R57 for the default tables at `REG_BITS = 8`. -/
theorem le_of_mem_defaultTable {n : Nat} (hn : n ∈ [256, 512, 1024]) : ∀ v ∈ defaultTable n, v ≤ 255 := by
  have hle : ∀ n ∈ [256, 512, 1024], ∀ v ∈ defaultTable n, v ≤ 255 := by decide +kernel
  exact hle n hn

theorem exists_defaultSample {n : Nat} (hn : n ∈ [256, 512, 1024]) {i : Nat} (hi : i < n) :
    ∃ v, defaultSample n i = some v ∧ v ≤ 255 := by
  have hlt : i < (defaultTable n).length := by rwa [length_defaultTable hn]
  rw [defaultSample_eq_getElem? hn, List.getElem?_eq_getElem hlt]
  exact ⟨_, rfl, le_of_mem_defaultTable hn _ (List.getElem_mem hlt)⟩

theorem getElem?_ne_of_notMem_take {l : List Nat} {v k : Nat} (h : v ∉ l.take k) {i : Nat} (hi : i < k) :
    l[i]? ≠ some v := by
  intro hv
  rw [← List.getElem?_take_of_lt hi] at hv
  exact h (List.mem_of_getElem? hv)

/-- The table laid over itself half a cycle apart: 256 at the start and 255 from there on (R62). -/
def HalfWave (n : Nat) (l : List Nat) : Prop :=
  List.zipWith (· + ·) l (l.drop (n / 2)) = 256 :: List.replicate (n / 2 - 1) 255

theorem HalfWave.getD_add_getD {n : Nat} {l : List Nat} (h : HalfWave n l) {i : Nat} (hi : i < n / 2) (hpos : 0 < i) :
    l.getD i 0 + l.getD (i + n / 2) 0 = 255 := by
  obtain ⟨k, rfl⟩ := Nat.exists_eq_add_one.mpr hpos
  have hk : (256 :: List.replicate (n / 2 - 1) 255)[k + 1]? = some 255 := by
    rw [List.getElem?_cons_succ, List.getElem?_replicate, if_pos (by omega)]
  rw [← h, List.getElem?_zipWith, List.getElem?_drop, Nat.add_comm (n / 2)] at hk
  rw [List.getD_eq_getElem?_getD, List.getD_eq_getElem?_getD]
  cases ha : l[k + 1]? with
  | none => rw [ha] at hk; cases hk
  | some a =>
    cases hb : l[k + 1 + n / 2]? with
    | none => rw [ha, hb] at hk; cases hk
    | some b => rw [ha, hb] at hk; exact Option.some.inj hk

/-- What the three tables are checked by, each check in one pass over the table: the half-wave symmetry, and the places
of the minimum and the maximum. -/
theorem defaultTable_passes : ∀ p ∈ [(256, 189, 61), (512, 377, 121), (1024, 754, 242)],
    HalfWave p.1 (defaultTable p.1) ∧ 0 ∉ (defaultTable p.1).take p.2.1 ∧ 255 ∉ (defaultTable p.1).take p.2.2 := by
  unfold HalfWave
  decide +kernel

/-- Settles O53: the length, the range, the rows and the passes are the facts above; the rest is read off the printed
tables at single places. -/
theorem defaultTablesMeetTheirChecks : Obligations.DefaultTablesMeetTheirChecks := by
  intro p hp
  have hn : p.1 ∈ [256, 512, 1024] := by revert p; decide
  have hpass : (p.1, p.2.2.2.2.1, p.2.2.2.2.2) ∈ [(256, 189, 61), (512, 377, 121), (1024, 754, 242)] := by
    revert p; decide
  obtain ⟨hwave, hzero, htop⟩ := defaultTable_passes _ hpass
  have hsample (i : Nat) : defaultSample p.1 i = (defaultTable p.1)[i]? := defaultSample_eq_getElem? hn i
  refine ⟨length_defaultTable hn, ?sum, le_of_mem_defaultTable hn, fun i _ => hsample i, ?start, ?quarter, ?half,
    ?threeQuarters, ?last, ?step, ?largest, ?zero, fun i hi => ?zeroFirst, ?top, fun i hi => ?topFirst,
    fun i hi hpos => hwave.getD_add_getD hi hpos⟩
  case zeroFirst => rw [hsample]; exact getElem?_ne_of_notMem_take hzero hi
  case topFirst => rw [hsample]; exact getElem?_ne_of_notMem_take htop hi
  all_goals
    clear hn hpass hwave hzero htop hsample
    revert p
    decide +kernel

end Sys2Proof.Machine
end

section
/-! Building a machine: which parameters and tables are taken, what the table then reads as, and the invariants of the
machine built (R8, R37, R57, R58, R171). -/

namespace Sys2Proof.Machine

/-- R6 to R9, R21: the checks on the parameters; each table length of the set is a power of two. -/
theorem configOk_iff {c : Config} :
    configOk c = true ↔ c.n ∈ [256, 512, 1024] ∧ c.prescaler ∈ prescalerFactors ∧ 1 ≤ c.timerBits ∧ c.timerBits ≤ 12 ∧
      c.idxBits + 1 ≤ c.idxw := by
  have hpow : ∀ n ∈ [256, 512, 1024], isPowerOfTwo n = true := by decide
  simp only [configOk, Bool.and_eq_true, List.contains_iff_mem, decide_eq_true_eq, and_assoc]
  exact and_congr_right fun hn => and_iff_right (hpow c.n hn)

/-- R57, R58: the check on a table. -/
theorem Memory.tableOk_iff {c : Config} {m : Memory} :
    Memory.tableOk c m = true ↔ ∀ i, i < c.n → ∃ v, Memory.read c m i = some v ∧ v ≤ c.regMax := by
  simp only [Memory.tableOk, List.all_eq_true, List.mem_range]
  refine forall₂_congr fun i _ => ?_
  cases Memory.read c m i <;> simp

/-- The default contents are those of width 8 (R63). -/
theorem Memory.read_nil {c : Config} (h : c.regBits = 8) {i : Nat} (hi : i < c.n) :
    Memory.read c [] i = defaultSample c.n i := by
  rw [Memory.read_of_lt _ hi, unlistedSample, if_pos h]
  rfl

theorem Memory.regBits_of_tableOk_nil {c : Config} (h : Memory.tableOk c [] = true) (hn : 0 < c.n) : c.regBits = 8 := by
  obtain ⟨v, hv, -⟩ := Memory.tableOk_iff.mp h 0 hn
  rw [Memory.read_of_lt _ hn, unlistedSample] at hv
  by_contra hne
  rw [if_neg hne] at hv
  cases hv

/-- Without a table, a supported length has the default contents at width 8 and nothing at the others. -/
theorem Memory.tableOk_nil_iff {c : Config} (hn : c.n ∈ [256, 512, 1024]) :
    Memory.tableOk c [] = true ↔ c.timerBits = 8 := by
  refine ⟨fun h => Memory.regBits_of_tableOk_nil h ?pos, fun h => Memory.tableOk_iff.mpr fun i hi => ?sample⟩
  case pos =>
    rw [n_eq_two_pow_of_mem hn]
    exact Nat.two_pow_pos _
  case sample =>
    have hmax : c.regMax = 255 := by rw [Config.regMax, Config.regBits, h]; rfl
    rw [Memory.read_nil h hi, hmax]
    exact exists_defaultSample hn hi

/-- The ROM of a table is in canonical form and keeps the table's contract. -/
theorem romOf_wf {c : Config} {t : Option (List Nat)} {rom : Memory} (h : romOf c t = some rom) :
    Memory.wf c rom = true := by
  cases t with
  | none => obtain ⟨-, rfl⟩ := romOf_none_eq_some.mp h; rfl
  | some l => obtain ⟨-, rfl⟩ := romOf_some_eq_some.mp h; exact Memory.program_wf c l

theorem romOf_tableOk {c : Config} {t : Option (List Nat)} {rom : Memory} (h : romOf c t = some rom) :
    Memory.tableOk c rom = true := by
  cases t with
  | none => obtain ⟨htable, rfl⟩ := romOf_none_eq_some.mp h; exact htable
  | some l =>
    obtain ⟨⟨hlen, hle⟩, rfl⟩ := romOf_some_eq_some.mp h
    refine Memory.tableOk_iff.mpr fun i hi => ?_
    have hlt : i < l.length := hlen ▸ hi
    exact ⟨l[i], by rw [Memory.read_program hlen, List.getElem?_eq_getElem hlt], hle _ (List.getElem_mem hlt)⟩

/-- A table that makes a ROM reads as it was given. -/
theorem read_of_romOf_some {c : Config} {l : List Nat} {rom : Memory} (h : romOf c (some l) = some rom) (i : Nat) :
    Memory.read c rom i = l[i]? := by
  obtain ⟨⟨hlen, -⟩, rfl⟩ := romOf_some_eq_some.mp h
  exact Memory.read_program hlen i

/-- Where the default contents make a ROM, each index below `N` reads as the default sample there. -/
theorem read_of_romOf_none {c : Config} {rom : Memory} (h : romOf c none = some rom) {i : Nat} (hi : i < c.n) :
    ∃ v, defaultSample c.n i = some v ∧ Memory.read c rom i = some v := by
  obtain ⟨htable, rfl⟩ := romOf_none_eq_some.mp h
  obtain ⟨v, hv, -⟩ := Memory.tableOk_iff.mp htable i hi
  rw [← Memory.read_nil (Memory.regBits_of_tableOk_nil htable (Nat.zero_lt_of_lt hi)) hi]
  exact ⟨v, hv, hv⟩

/-- Settles O50: a table is read as it was programmed, and the default contents as what no cell lists. -/
theorem programmedTableReadsBack : Obligations.ProgrammedTableReadsBack := by
  refine ⟨fun c l rom => read_of_romOf_some, fun c rom h => ⟨fun hn => ?width, fun i => read_of_romOf_none h, fun i => ?outside⟩,
    fun c s h => ?built⟩
  case width => exact Memory.regBits_of_tableOk_nil (romOf_none_eq_some.mp h).1 hn
  case outside => exact Memory.read_of_ge rom
  case built =>
    obtain ⟨-, rom, hrom, rfl⟩ := build_eq_next.mp h
    exact ⟨fun i => read_of_romOf_none hrom, fun i => Memory.read_of_ge rom⟩

/-- Settles O56: the checks of `build` are what the invariants ask of a machine with every register at 0. -/
theorem invariantHoldsInEveryBuiltMachine : Obligations.InvariantHoldsInEveryBuiltMachine := by
  intro c t s h
  obtain ⟨hc, rom, hrom, rfl⟩ := build_eq_next.mp h
  exact Inv.powerOn hc (romOf_tableOk hrom) (romOf_wf hrom)

/-- The state after reset is the machine of its parameters with the default contents. -/
theorem build_initial : build Config.initial none = .next State.reset :=
  build_eq_next.mpr
    ⟨by decide, [], romOf_none_eq_some.mpr ⟨(Memory.tableOk_nil_iff (by decide)).mpr rfl, rfl⟩, rfl⟩

/-- Settles O55: the state after reset is a machine that is built. -/
theorem invariantHoldsAtReset : Obligations.InvariantHoldsAtReset :=
  invariantHoldsInEveryBuiltMachine _ _ _ build_initial

/-- A table that `build` takes: the default one at width 8, or `N` samples in range. -/
def TableTaken (c : Config) : Option (List Nat) → Prop
  | none => c.timerBits = 8
  | some l => l.length = c.n ∧ ∀ v ∈ l, v ≤ c.regMax

theorem exists_romOf_iff {c : Config} (hn : c.n ∈ [256, 512, 1024]) (t : Option (List Nat)) :
    (∃ rom, romOf c t = some rom) ↔ TableTaken c t := by
  cases t with
  | none => simpa [romOf_none_eq_some, TableTaken] using Memory.tableOk_nil_iff hn
  | some l => simp [romOf_some_eq_some, TableTaken]

theorem exists_build_iff {c : Config} {t : Option (List Nat)} :
    (∃ s, build c t = .next s) ↔ configOk c = true ∧ TableTaken c t := by
  simp only [build_eq_next, exists_and_left, exists_comm (α := State), exists_eq', and_true]
  exact and_congr_right fun hc => exists_romOf_iff (configOk_iff.mp hc).1 t

/-- `build` has one refusal and no fault. -/
theorem build_eq_refused {c : Config} {t : Option (List Nat)} (h : ¬ ∃ s, build c t = .next s) :
    build c t = .refused .badConfiguration := by
  unfold build at h ⊢
  split_ifs at h ⊢
  · cases hrom : romOf c t with
    | none => rfl
    | some rom => rw [hrom] at h; exact absurd ⟨_, rfl⟩ h
  · rfl

/-- Settles O49: the two checks of `build` are the statement's, and what it answers is the state after power-on with the
ROM of the table. -/
theorem onlySupportedConfigurationsAreBuilt : Obligations.OnlySupportedConfigurationsAreBuilt := by
  refine fun c t => ⟨?taken, build_eq_refused, fun s h => ?machine, build_initial⟩
  case taken =>
    rw [exists_build_iff, configOk_iff]
    cases t <;> simp [prescalerFactors, TableTaken, and_assoc]
  case machine =>
    obtain ⟨-, rom, hrom, rfl⟩ := build_eq_next.mp h
    refine ⟨⟨rom, rfl⟩, rfl, rfl, rfl, rfl, rfl, rfl, rfl, rfl, rfl, rfl, fun l hl => ?given, fun ht i => ?default⟩
    case given =>
      subst hl
      exact read_of_romOf_some hrom
    case default =>
      subst ht
      split_ifs with hi
      · obtain ⟨v, hv, hread⟩ := read_of_romOf_none hrom hi
        exact hread.trans hv.symm
      · exact Memory.read_of_ge rom (Nat.le_of_not_lt hi)

end Sys2Proof.Machine
end

section
/-! The contract on the foreground's program (R205 to R207, R215): which programs finish the setup from where it stands,
operation by operation, and so what the check of a whole sequence tells. -/

namespace Sys2Proof.Machine

/-! ## One operation against the contract -/

theorem observe_of_complete {prescaler : Nat} {q : SetupProgress} {i : Instr} (hq : q.complete = true)
    (hi : i.issuer = .fg) :
    observe prescaler q i = if i = .idle then .ok q else .error .foregroundWriteAfterSetup := by
  simp [observe, hi, hq]

theorem observe_of_incomplete {prescaler : Nat} {q : SetupProgress} {i : Instr} (hq : q.complete = false)
    (hi : i.issuer = .fg) : observe prescaler q i = duringSetup prescaler q i := by
  simp [observe, hi, hq]

theorem onceInside_eq_ok {q after q' : SetupProgress} {doneAlready : Bool} :
    onceInside q doneAlready after = .ok q' ↔ (q.opened = true ∧ doneAlready = false) ∧ after = q' := by
  unfold onceInside
  cases q.opened <;> cases doneAlready <;> simp

/-- The four setup steps, each to be issued once (R207). -/
def setupSteps (code : BitVec 3) : List Instr := [.setmode true, .setps code, .pinout, .install]

/-- What may stand between the two `SETGIE` of a setup: a setup step, `IDLE` or `WRCMPB` (R207). -/
def BodyOp (code : BitVec 3) (i : Instr) : Prop :=
  i ∈ [.setmode true, .setps code, .pinout, .install, .idle] ∨ ∃ v, i = .wrcmpb v

/-- Whether a setup step has been issued. -/
def SetupProgress.done (q : SetupProgress) : Instr → Bool
  | .setmode _ => q.mode
  | .setps _ => q.ps
  | .pinout => q.pin
  | .install => q.inst
  | _ => false

/-- The progress with a setup step issued. -/
def SetupProgress.mark (q : SetupProgress) : Instr → SetupProgress
  | .setmode _ => { q with mode := true }
  | .setps _ => { q with ps := true }
  | .pinout => { q with pin := true }
  | .install => { q with inst := true }
  | _ => q

section
variable {prescaler : Nat} {code : BitVec 3} {q : SetupProgress} {i j : Instr}

theorem mem_setupSteps :
    i ∈ setupSteps code ↔ i = .setmode true ∨ i = .setps code ∨ i = .pinout ∨ i = .install := by
  simp [setupSteps]

theorem bodyOp_iff :
    BodyOp code i ↔
      i = .setmode true ∨ i = .setps code ∨ i = .pinout ∨ i = .install ∨ i = .idle ∨ ∃ v, i = .wrcmpb v := by
  simp [BodyOp, or_assoc]

theorem bodyOp_of_mem (hi : i ∈ setupSteps code) : BodyOp code i := by
  obtain rfl | rfl | rfl | rfl := mem_setupSteps.mp hi <;> simp [BodyOp]

@[simp] theorem SetupProgress.mark_opened : (q.mark i).opened = q.opened := by cases i <;> rfl

@[simp] theorem SetupProgress.mark_complete : (q.mark i).complete = q.complete := by cases i <;> rfl

/-- Issuing an operation of the body marks itself and no other step. -/
theorem SetupProgress.done_mark (hi : BodyOp code i) (hj : j ∈ setupSteps code) :
    (q.mark i).done j = (q.done j || decide (i = j)) := by
  obtain rfl | rfl | rfl | rfl := mem_setupSteps.mp hj <;>
    obtain rfl | rfl | rfl | rfl | rfl | ⟨v, rfl⟩ := bodyOp_iff.mp hi <;> simp [mark, done]

/-- What is no setup step is never marked. -/
theorem SetupProgress.done_of_notMem (hi : BodyOp code i) (h : i ∉ setupSteps code) : q.done i = false := by
  rw [mem_setupSteps] at h
  obtain rfl | rfl | rfl | rfl | rfl | ⟨v, rfl⟩ := bodyOp_iff.mp hi
  case inl | inr.inl | inr.inr.inl | inr.inr.inr.inl => simp at h
  all_goals rfl

theorem duringSetup_bodyOp (hcode : pscode prescaler = some code) (hi : BodyOp code i) :
    duringSetup prescaler q i = onceInside q (q.done i) (q.mark i) := by
  obtain rfl | rfl | rfl | rfl | rfl | ⟨v, rfl⟩ := bodyOp_iff.mp hi
  case inr.inl => exact if_pos hcode
  all_goals rfl

theorem duringSetup_open_again (h : q.opened = true) :
    duringSetup prescaler q (.setgie false) = .error .illFormedSetup := if_pos h

theorem duringSetup_close :
    duringSetup prescaler q (.setgie true) =
      if q.opened && q.mode && q.ps && q.pin && q.inst then .ok { q with complete := true }
      else .error .illFormedSetup := rfl

theorem duringSetup_other (hcode : pscode prescaler = some code) (hi : i.issuer = .fg) (hbody : ¬ BodyOp code i)
    (hgie : ∀ b, i ≠ .setgie b) : duringSetup prescaler q i = .error .illFormedSetup := by
  cases i with
  | setgie b => exact absurd rfl (hgie b)
  | setmode b =>
    cases b
    · rfl
    · exact absurd (Or.inl (by simp)) hbody
  | setps c =>
    refine if_neg fun hc => hbody ?_
    obtain rfl : code = c := Option.some.inj (hcode.symm.trans hc)
    exact Or.inl (by simp)
  | idle | pinout | install => exact absurd (Or.inl (by simp)) hbody
  | wrcmpb v => exact absurd (Or.inr ⟨v, rfl⟩) hbody
  | _ => nomatch hi

theorem onceInside_eq_error {after : SetupProgress} {doneAlready : Bool} {r : Refusal}
    (h : onceInside q doneAlready after = .error r) : r = .illFormedSetup := by
  unfold onceInside at h
  split_ifs at h
  cases h
  rfl

/-- Before setup completes there is one verdict. -/
theorem duringSetup_eq_error {r : Refusal} (h : duringSetup prescaler q i = .error r) : r = .illFormedSetup := by
  cases i with
  | setgie b => cases b <;> · rw [duringSetup] at h; split_ifs at h; cases h; rfl
  | setmode b =>
    cases b
    · cases h; rfl
    · exact onceInside_eq_error h
  | setps c =>
    rw [duringSetup] at h
    split_ifs at h
    · exact onceInside_eq_error h
    · cases h; rfl
  | idle | pinout | install | wrcmpb => exact onceInside_eq_error h
  | _ => cases h

/-- Before `SETGIE 0` nothing else of the foreground may come. -/
theorem duringSetup_unopened (hi : i.issuer = .fg) (h : q.opened = false) (hne : i ≠ .setgie false) :
    duringSetup prescaler q i = .error .illFormedSetup := by
  cases i with
  | setgie b =>
    cases b
    · exact absurd rfl hne
    · simp [duringSetup, h]
  | setmode b => cases b <;> simp [duringSetup, onceInside, h]
  | setps c => simp [duringSetup, onceInside, h]
  | idle | pinout | install | wrcmpb => simp [duringSetup, onceInside, h]
  | _ => nomatch hi

theorem done_all_iff : (q.mode && q.ps && q.pin && q.inst) = true ↔ ∀ j ∈ setupSteps code, q.done j = true := by
  simp [setupSteps, SetupProgress.done, and_assoc]

end

/-! ## The programs that finish a setup -/

/-- The rest of a setup that has been opened: the steps still missing, each once, with any `IDLE` and `WRCMPB` among
them, then `SETGIE 1`, then `IDLE` only. -/
def OpenProgram (code : BitVec 3) (q : SetupProgress) (l : List Instr) : Prop :=
  ∃ body idles, l = body ++ .setgie true :: idles ∧ (∀ i ∈ body, BodyOp code i) ∧
    (∀ j ∈ setupSteps code, body.count j = if q.done j then 0 else 1) ∧ ∀ i ∈ idles, i = .idle

/-- The programs that bring a setup from the progress `q` to a well-formed end. -/
def Finishes (code : BitVec 3) (q : SetupProgress) (l : List Instr) : Prop :=
  if q.complete then ∀ i ∈ l, i = .idle
  else if q.opened then OpenProgram code q l
  else ∃ rest, l = .setgie false :: rest ∧ OpenProgram code q rest

section
variable {prescaler : Nat} {code : BitVec 3} {q : SetupProgress} {i : Instr} {l : List Instr}

theorem finishes_of_complete (hq : q.complete = true) : Finishes code q l ↔ ∀ i ∈ l, i = .idle := by
  simp [Finishes, hq]

theorem finishes_of_opened (hq : q.complete = false) (hopen : q.opened = true) :
    Finishes code q l ↔ OpenProgram code q l := by
  simp [Finishes, hq, hopen]

theorem finishes_of_unopened (hq : q.complete = false) (hopen : q.opened = false) :
    Finishes code q l ↔ ∃ rest, l = .setgie false :: rest ∧ OpenProgram code q rest := by
  simp [Finishes, hq, hopen]

/-- R207 is the case of a setup that has not begun. -/
theorem wellFormedSetup_iff (hcode : pscode prescaler = some code) :
    WellFormedSetup prescaler l ↔ Finishes code .start l := by
  rw [finishes_of_unopened rfl rfl]
  constructor
  · rintro ⟨code', body, idles, hcode', rfl, hbody, hcount, hidle⟩
    obtain rfl : code = code' := Option.some.inj (hcode.symm.trans hcode')
    refine ⟨_, rfl, body, idles, rfl, hbody, fun j hj => (hcount j hj).trans ?_, hidle⟩
    cases j <;> rfl
  · rintro ⟨rest, rfl, body, idles, rfl, hbody, hcount, hidle⟩
    refine ⟨code, body, idles, hcode, rfl, hbody, fun j hj => (hcount j hj).trans ?_, hidle⟩
    cases j <;> rfl

theorem not_bodyOp_setgie (b : Bool) : ¬ BodyOp code (.setgie b) := by simp [BodyOp]

theorem not_openProgram_nil : ¬ OpenProgram code q [] := by
  rintro ⟨body, idles, h, -⟩
  simp at h

/-- `SETGIE 1` ends an opened setup exactly where no step is missing. -/
theorem openProgram_close_cons :
    OpenProgram code q (.setgie true :: l) ↔ (∀ j ∈ setupSteps code, q.done j = true) ∧ ∀ i ∈ l, i = .idle := by
  constructor
  · rintro ⟨body, idles, h, hbody, hcount, hidle⟩
    cases body with
    | nil =>
      obtain rfl : l = idles := by simpa using h
      refine ⟨fun j hj => ?_, hidle⟩
      by_contra hdone
      simpa [hdone] using hcount j hj
    | cons b body =>
      obtain ⟨rfl, -⟩ : Instr.setgie true = b ∧ l = body ++ .setgie true :: idles := by simpa using h
      exact absurd (hbody _ List.mem_cons_self) (not_bodyOp_setgie true)
  · rintro ⟨hdone, hidle⟩
    exact ⟨[], l, rfl, nofun, fun j hj => by simp [hdone j hj], hidle⟩

/-- A step is missing from the rest exactly if it is missing before and not issued now. -/
theorem count_cons_eq_iff {body : List Instr} {j : Instr} (hi : BodyOp code i) (hdone : q.done i = false)
    (hj : j ∈ setupSteps code) :
    (i :: body).count j = (if q.done j then 0 else 1) ↔ body.count j = if (q.mark i).done j then 0 else 1 := by
  rw [SetupProgress.done_mark hi hj]
  by_cases hij : i = j
  · subst hij
    simp [hdone]
  · simp [hij]

/-- A step of the body is one that was missing. -/
theorem done_of_count_cons {body : List Instr} (hi : BodyOp code i)
    (hcount : ∀ j ∈ setupSteps code, (i :: body).count j = if q.done j then 0 else 1) : q.done i = false := by
  by_cases hstep : i ∈ setupSteps code
  · have hi := hcount i hstep
    cases hdone : q.done i with
    | false => rfl
    | true => simp [hdone] at hi
  · exact SetupProgress.done_of_notMem hi hstep

/-- Every other operation of an opened setup is one of the body, and a step among them was missing. -/
theorem openProgram_cons (hi : i ≠ .setgie true) :
    OpenProgram code q (i :: l) ↔ BodyOp code i ∧ q.done i = false ∧ OpenProgram code (q.mark i) l := by
  constructor
  · rintro ⟨body, idles, h, hbody, hcount, hidle⟩
    cases body with
    | nil => exact absurd (List.cons.inj h).1 hi
    | cons b body =>
      obtain ⟨rfl, rfl⟩ := List.cons.inj h
      obtain ⟨hi, hbody⟩ := List.forall_mem_cons.mp hbody
      have hdone := done_of_count_cons hi hcount
      exact ⟨hi, hdone, body, idles, rfl, hbody, fun j hj => (count_cons_eq_iff hi hdone hj).mp (hcount j hj), hidle⟩
  · rintro ⟨hi, hdone, body, idles, rfl, hbody, hcount, hidle⟩
    exact ⟨i :: body, idles, rfl, List.forall_mem_cons.mpr ⟨hi, hbody⟩,
      fun j hj => (count_cons_eq_iff hi hdone hj).mpr (hcount j hj), hidle⟩

/-- One operation of the foreground: a program finishes the setup exactly if its first operation is taken and the rest
finishes it from there. -/
theorem finishes_cons (hcode : pscode prescaler = some code) (hi : i.issuer = .fg) :
    Finishes code q (i :: l) ↔ ∃ q', observe prescaler q i = .ok q' ∧ Finishes code q' l := by
  cases hq : q.complete with
  | true =>
    rw [finishes_of_complete hq, observe_of_complete hq hi, List.forall_mem_cons]
    split_ifs with hidle <;> simp [hidle, finishes_of_complete hq]
  | false =>
    rw [observe_of_incomplete hq hi]
    cases hopen : q.opened with
    | false =>
      rw [finishes_of_unopened hq hopen]
      by_cases hgie : i = .setgie false
      · subst hgie
        have hnext : duringSetup prescaler q (.setgie false) = .ok { q with opened := true } := by
          simp [duringSetup, hopen]
        simp only [hnext, Except.ok.injEq, exists_eq_left', List.cons.injEq, true_and]
        exact (finishes_of_opened (q := { q with opened := true }) hq rfl).symm
      · simp [duringSetup_unopened hi hopen hgie, hgie]
    | true =>
      rw [finishes_of_opened hq hopen]
      by_cases hclose : i = .setgie true
      · subst hclose
        rw [openProgram_close_cons, ← done_all_iff, duringSetup_close, hopen, Bool.true_and]
        split_ifs with hall <;> simp [hall, finishes_of_complete]
      · rw [openProgram_cons hclose]
        by_cases hbody : BodyOp code i
        · simp only [duringSetup_bodyOp hcode hbody, onceInside_eq_ok, hopen, true_and, and_assoc, exists_and_left,
            exists_eq_left', finishes_of_opened (q := q.mark i) (by simpa using hq) (by simpa using hopen), hbody]
        · have herror : duringSetup prescaler q i = .error .illFormedSetup := by
            by_cases hgie : i = .setgie false
            · subst hgie
              exact duringSetup_open_again hopen
            · exact duringSetup_other hcode hi hbody fun b => by cases b <;> assumption
          simp [herror, hbody]

theorem finishes_nil : Finishes code q [] ↔ q.complete = true := by
  unfold Finishes
  split_ifs with hq <;> simp [hq, not_openProgram_nil]

end

end Sys2Proof.Machine
end

section
/-! The check of a whole sequence against the contract, and the statements about setup (R206 to R208, R215). -/

namespace Sys2Proof.Machine

/-! ## Sequences -/

theorem eq_reset_of_issuer {i : Instr} (h : i.issuer = .rst) : i = .reset := by
  cases i with
  | reset => rfl
  | _ => nomatch h

/-- Without a `RESET`, the check sees the foreground's program alone. -/
theorem checkOps_fgProgram {prescaler : Nat} {ops : List Instr} (hreset : Instr.reset ∉ ops) (q : SetupProgress) :
    checkOps prescaler q (fgProgram ops) = checkOps prescaler q ops := by
  induction ops generalizing q with
  | nil => rfl
  | cons i rest ih =>
    obtain ⟨hi, hrest⟩ := not_or.mp (mt List.mem_cons.mpr hreset)
    by_cases hfg : i.issuer = .fg
    · rw [fgProgram_cons_fg rest hfg]
      cases ho : observe prescaler q i with
      | ok q' => rw [checkOps_cons_ok _ ho, checkOps_cons_ok _ ho, ih hrest]
      | error r => rw [checkOps_cons_error _ ho, checkOps_cons_error _ ho]
    · have hhardware : i.issuer = .tmr ∨ i.issuer = .seq := by
        cases hissuer : i.issuer with
        | fg => exact absurd hissuer hfg
        | rst => exact absurd (eq_reset_of_issuer hissuer).symm hi
        | tmr => exact .inl rfl
        | seq => exact .inr rfl
      rw [fgProgram_cons_other rest hfg, checkOps_cons_ok rest (observe_hardware prescaler q hhardware), ih hrest]

theorem issuer_of_mem_fgProgram {ops : List Instr} : ∀ i ∈ fgProgram ops, i.issuer = .fg := by
  simp [fgProgram]

section
variable {prescaler : Nat} {code : BitVec 3}

/-- A foreground program completes the setup exactly if it finishes it from where it stands. -/
theorem checkOps_complete_iff (hcode : pscode prescaler = some code) {l : List Instr} (hl : ∀ i ∈ l, i.issuer = .fg)
    (q : SetupProgress) :
    (∃ q', checkOps prescaler q l = .ok q' ∧ q'.complete = true) ↔ Finishes code q l := by
  induction l generalizing q with
  | nil => simp [finishes_nil]
  | cons i l ih =>
    obtain ⟨hi, hl⟩ := List.forall_mem_cons.mp hl
    rw [finishes_cons hcode hi]
    cases ho : observe prescaler q i with
    | ok q' => simpa [checkOps_cons_ok l ho] using ih hl q'
    | error r => simp [checkOps_cons_error l ho]

/-- From every progress the setup can still be finished, by the steps that are missing. -/
theorem exists_finishes (code : BitVec 3) (q : SetupProgress) : ∃ rest, Finishes code q rest := by
  have hopen : OpenProgram code q ((setupSteps code).filter (fun j => !q.done j) ++ [.setgie true]) := by
    refine ⟨_, [], rfl, fun i hi => bodyOp_of_mem (List.mem_of_mem_filter hi), fun j hj => ?_, nofun⟩
    have hnodup : (setupSteps code).Nodup := by simp [setupSteps]
    cases hdone : q.done j with
    | true => simp [List.count_eq_zero, hdone]
    | false =>
      rw [List.count_filter (by simp [hdone]), List.count_eq_one_of_mem hnodup hj]
      rfl
  cases hq : q.complete with
  | true => exact ⟨[], finishes_nil.mpr hq⟩
  | false =>
    cases h : q.opened with
    | true => exact ⟨_, (finishes_of_opened hq h).mpr hopen⟩
    | false => exact ⟨_, (finishes_of_unopened hq h).mpr ⟨_, rfl, hopen⟩⟩

/-- After setup completes the verdict is another one. -/
theorem checkOps_ne_illFormed {l : List Instr} (hl : ∀ i ∈ l, i.issuer = .fg) {q : SetupProgress}
    (hq : q.complete = true) : checkOps prescaler q l ≠ .error .illFormedSetup := by
  induction l with
  | nil => simp
  | cons i l ih =>
    obtain ⟨hi, hl⟩ := List.forall_mem_cons.mp hl
    have ho := observe_of_complete (prescaler := prescaler) hq hi
    split_ifs at ho with hidle
    · rw [checkOps_cons_ok l ho]
      exact ih hl
    · simp [checkOps_cons_error l ho]

/-- The prefixes of a nonempty list. -/
theorem forall_prefix_cons {motive : List Instr → Prop} {i : Instr} {l : List Instr} :
    (∀ front, front <+: i :: l → motive front) ↔ motive [] ∧ ∀ front, front <+: l → motive (i :: front) := by
  constructor
  · intro h
    exact ⟨h [] List.nil_prefix, fun front hfront => h _ (List.cons_prefix_cons.mpr ⟨rfl, hfront⟩)⟩
  · rintro ⟨hnil, hcons⟩ front hfront
    obtain rfl | ⟨tail, rfl, htail⟩ := List.prefix_cons_iff.mp hfront
    · exact hnil
    · exact hcons tail htail

/-- A foreground program is ill formed exactly if no continuation of it finishes the setup and no beginning has. -/
theorem checkOps_illFormed_iff (hcode : pscode prescaler = some code) {l : List Instr} (hl : ∀ i ∈ l, i.issuer = .fg)
    (q : SetupProgress) :
    checkOps prescaler q l = .error .illFormedSetup ↔
      (∀ rest, ¬ Finishes code q (l ++ rest)) ∧ ∀ front, front <+: l → ¬ Finishes code q front := by
  induction l generalizing q with
  | nil =>
    obtain ⟨rest, hrest⟩ := exists_finishes code q
    exact iff_of_false (by simp) fun h => h.1 rest hrest
  | cons i l ih =>
    cases hq : q.complete with
    | true =>
      refine iff_of_false (checkOps_ne_illFormed hl hq) fun h => ?_
      exact h.2 [] List.nil_prefix (finishes_nil.mpr hq)
    | false =>
      obtain ⟨hi, hl⟩ := List.forall_mem_cons.mp hl
      simp only [forall_prefix_cons, List.cons_append, finishes_cons hcode hi, finishes_nil, hq]
      cases ho : observe prescaler q i with
      | ok q' => simpa [checkOps_cons_ok l ho] using ih hl q'
      | error r =>
        obtain rfl := duringSetup_eq_error ((observe_of_incomplete hq hi).symm.trans ho)
        simp [checkOps_cons_error l ho]

/-- R206: the canonical setup program of a code. -/
def canonicalSetup (code : BitVec 3) : List Instr := .setgie false :: (setupSteps code ++ [.setgie true])

theorem wellFormedSetup_canonical (hcode : pscode prescaler = some code) (k : Nat) :
    WellFormedSetup prescaler (canonicalSetup code ++ List.replicate k .idle) :=
  ⟨code, setupSteps code, List.replicate k .idle, hcode, rfl, fun _ => bodyOp_of_mem,
    fun _ => List.count_eq_one_of_mem (by simp), fun _ => List.eq_of_mem_replicate⟩

theorem issuer_of_mem_canonical (k : Nat) : ∀ i ∈ canonicalSetup code ++ List.replicate k .idle, i.issuer = .fg := by
  intro i hi
  obtain hi | hi := List.mem_append.mp hi
  · revert i
    simp [canonicalSetup, setupSteps, Instr.issuer]
  · rw [List.eq_of_mem_replicate hi]
    rfl

end

/-- Settles O46: the check of a sequence is that of its foreground program, which is told by the programs that finish
the setup; the canonical setup is one of them. -/
theorem canonicalSetupIsWellFormed : Obligations.CanonicalSetupIsWellFormed := by
  refine ⟨fun c p k code hcode => ?canonical, fun p ops hp hreset => ?decides, fun p before after q h => ?restart,
    fun s lines ops hread => ⟨fun q h => ?loaded, fun h => ?refused⟩⟩
  case canonical =>
    have hwf := wellFormedSetup_canonical hcode k
    refine ⟨canonicalSetup code, by rw [expandPseudo_setup, hcode]; rfl, ?words, hwf, ?complete⟩
    case words => rw [← encode_setps]; rfl
    case complete =>
      exact (checkOps_complete_iff hcode (issuer_of_mem_canonical k) .start).mpr ((wellFormedSetup_iff hcode).mp hwf)
  case decides =>
    obtain ⟨code, hcode⟩ := Option.ne_none_iff_exists'.mp (mt pscode_eq_none_iff.mp (not_not.mpr hp))
    simp only [wellFormedSetup_iff hcode, ← checkOps_fgProgram hreset]
    exact ⟨checkOps_complete_iff hcode issuer_of_mem_fgProgram _,
      checkOps_illFormed_iff hcode issuer_of_mem_fgProgram _⟩
  case restart => rw [checkOps_append _ h, checkOps_cons_ok after (observe_reset p q)]
  case loaded => exact load_eq_next.mpr ⟨rfl, q, (judgeSchedule_of_readLines_ok hread).trans h⟩
  case refused => exact load_eq_refused.mpr ((judgeSchedule_of_readLines_ok hread).trans h)

/-- R215: after setup has completed, the first other operation of the foreground decides the verdict. -/
theorem checkOps_write_after_setup {p : Nat} {ops : List Instr} (rest : List Instr) {q : SetupProgress} {i : Instr}
    (h : checkOps p SetupProgress.start ops = .ok q) (hq : q.complete = true) (hi : i.issuer = .fg) (hne : i ≠ .idle) :
    checkOps p SetupProgress.start (ops ++ i :: rest) = .error .foregroundWriteAfterSetup := by
  have hobserve : observe p q i = .error .foregroundWriteAfterSetup := (observe_of_complete hq hi).trans (if_neg hne)
  rw [checkOps_append _ h, checkOps_cons_error rest hobserve]

/-- Settles O48: the sequence is judged up to the write, and the load answers the verdict. -/
theorem foregroundWritesAfterSetupAreRefused : Obligations.ForegroundWritesAfterSetupAreRefused := by
  refine ⟨fun p ops rest q i => checkOps_write_after_setup rest, fun s lines ops rest q i hread h hq hi hne => ?load,
    fun i s => exec_fg_out_of_service⟩
  case load =>
    exact load_eq_refused.mpr
      ((judgeSchedule_of_readLines_ok hread).trans (checkOps_write_after_setup rest h hq hi hne))

/-! ## Setup on the machine -/

/-- What the control register holds of the steps of the setup that have been issued (R205, R208). -/
structure SetupCtrl (prescaler : Nat) (q : SetupProgress) (r : Ctrl) : Prop where
  mode : q.mode = true → r.mode = true
  ps : q.ps = true → pscode prescaler = some r.ps
  poe : q.pin = true → r.poe = true
  ovie : q.inst = true → r.ovie = true
  gie : q.complete = true → r.gie = true
  all : q.complete = true → (q.mode && q.ps && q.pin && q.inst) = true

/-- An operation that the contract takes before setup completes does in `CTRL` what the progress says. -/
theorem SetupCtrl.duringSetup {prescaler : Nat} {q q' : SetupProgress} {r : Ctrl} {i : Instr}
    (h : SetupCtrl prescaler q r) (hq : q.complete = false) (hi : i.issuer = .fg)
    (ho : duringSetup prescaler q i = .ok q') : SetupCtrl prescaler q' (ctrlAfter i r) := by
  have hnot {P : Prop} (hc : q.complete = true) : P := by simp [hq] at hc
  cases i with
  | setgie b =>
    cases b <;> rw [Machine.duringSetup] at ho <;> split_ifs at ho with hall <;> cases ho
    · exact { h with gie := hnot, all := hnot }
    · simp only [Bool.and_assoc, Bool.and_eq_true] at hall
      exact { h with gie := fun _ => rfl, all := fun _ => by simp [hall] }
  | setmode b =>
    cases b
    · cases ho
    · obtain ⟨-, rfl⟩ := onceInside_eq_ok.mp ho
      exact { h with mode := fun _ => rfl, all := hnot }
  | setps c =>
    rw [Machine.duringSetup] at ho
    split_ifs at ho with hc
    obtain ⟨-, rfl⟩ := onceInside_eq_ok.mp ho
    exact { h with ps := fun _ => hc, all := hnot }
  | pinout =>
    obtain ⟨-, rfl⟩ := onceInside_eq_ok.mp ho
    exact { h with poe := fun _ => rfl, all := hnot }
  | install =>
    obtain ⟨-, rfl⟩ := onceInside_eq_ok.mp ho
    exact { h with ovie := fun _ => rfl, all := hnot }
  | idle | wrcmpb => obtain ⟨-, rfl⟩ := onceInside_eq_ok.mp ho; exact h
  | _ => nomatch hi

/-- The setup as far as `q` has been performed on the machine, which is out of service with its index at 0. -/
structure SetUp (prescaler : Nat) (q : SetupProgress) (s : State) : Prop where
  ctrl : SetupCtrl prescaler q s.ctrl
  hpc : s.hpc = 0#3
  idx : s.idx = 0

/-- An operation of the foreground that the contract takes runs, and so does a clock. -/
theorem SetUp.exec {prescaler : Nat} {q q' : SetupProgress} {s : State} {i : Instr} (h : SetUp prescaler q s)
    (hi : i.issuer = .fg ∨ i = .clk) (ho : observe prescaler q i = .ok q') :
    ∃ t, exec i s = .next t ∧ SetUp prescaler q' t := by
  obtain hi | rfl := hi
  · obtain ⟨t, ht⟩ := exec_fg_out_of_service hi h.hpc
    have hctrl : SetupCtrl prescaler q' t.ctrl := by
      rw [exec_next_ctrl ht]
      cases hq : q.complete with
      | true =>
        rw [observe_of_complete hq hi] at ho
        split_ifs at ho with hidle
        cases ho
        subst hidle
        exact h.ctrl
      | false => exact h.ctrl.duringSetup hq hi ((observe_of_incomplete hq hi).symm.trans ho)
    refine ⟨t, ht, ?_⟩
    obtain ⟨ctrl, div, cmpb, rfl⟩ := exec_fg_next hi ht
    exact ⟨hctrl, h.hpc, h.idx⟩
  · rw [observe_hardware prescaler q (.inl rfl)] at ho
    cases ho
    have hframe := s.clockEffect_timerFrame
    exact ⟨_, execClk_next.mpr rfl, hframe.ctrl ▸ h.ctrl, (congrArg SeqView.hpc hframe.seqView).trans h.hpc,
      (congrArg SeqView.idx hframe.seqView).trans h.idx⟩

theorem SetUp.run {prescaler : Nat} {ops : List Instr} {q q' : SetupProgress} {s : State} (h : SetUp prescaler q s)
    (hops : ∀ i ∈ ops, i.issuer = .fg ∨ i = .clk) (hcheck : checkOps prescaler q ops = .ok q') :
    ∃ t, runOps ops s = .next t ∧ SetUp prescaler q' t := by
  induction ops generalizing q s with
  | nil => cases hcheck; exact ⟨s, rfl, h⟩
  | cons i rest ih =>
    obtain ⟨hi, hrest⟩ := List.forall_mem_cons.mp hops
    cases ho : observe prescaler q i with
    | error r => rw [checkOps_cons_error rest ho] at hcheck; cases hcheck
    | ok p =>
      rw [checkOps_cons_ok rest ho] at hcheck
      obtain ⟨u, hu, h'⟩ := h.exec hi ho
      obtain ⟨t, ht, h''⟩ := ih h' hrest hcheck
      exact ⟨t, runOps_cons_next.mpr ⟨u, hu, ht⟩, h''⟩

theorem SetUp.powerOn (c : Config) (rom : Memory) : SetUp c.prescaler .start (State.powerOn c rom) :=
  ⟨⟨nofun, nofun, nofun, nofun, nofun, nofun⟩, rfl, rfl⟩

/-- Settles O47: at the end every step has been issued, so `CTRL` holds what R208 asks. -/
theorem completedSetupIsLive : Obligations.CompletedSetupIsLive := by
  intro c rom ops q hops hcheck hq
  obtain ⟨t, ht, h⟩ := (SetUp.powerOn c rom).run hops hcheck
  obtain ⟨⟨⟨hmode, hps⟩, hpin⟩, hinst⟩ : ((q.mode = true ∧ q.ps = true) ∧ q.pin = true) ∧ q.inst = true := by
    simpa using h.ctrl.all hq
  have hcode := h.ctrl.ps hps
  refine ⟨t, ht, ?live, hcode, h.ctrl.poe hpin, h.hpc, h.idx⟩
  case live =>
    simp [State.live, h.ctrl.gie hq, h.ctrl.ovie hinst, h.ctrl.mode hmode, (pscode_eq_some_iff.mp hcode).1]

end Sys2Proof.Machine
end

section
/-! The timing laws (R221 to R223). -/

namespace Sys2Proof.Machine

theorem cast_pwmPeriodClocks (c : Config) : (pwmPeriodClocks c : ℚ) = c.prescaler * 2 ^ c.timerBits := by
  simp [pwmPeriodClocks]

theorem cast_wavePeriodClocks (c : Config) : (wavePeriodClocks c : ℚ) = c.prescaler * 2 ^ c.timerBits * c.n := by
  simp [wavePeriodClocks, cast_pwmPeriodClocks]

/-- R7: every supported factor is positive. -/
theorem prescaler_pos_of_configOk {c : Config} (h : configOk c = true) : 0 < c.prescaler := by
  have hpos : ∀ p ∈ prescalerFactors, 0 < p := by decide
  exact hpos _ (configOk_iff.mp h).2.1

/-- R221, R222: period and frequency are the two quotients of the wave period in clocks and the clock frequency. -/
theorem periodSeconds_mul_frequencyHz {c : Config} {t : Timing} (hc : configOk c = true) (ht : 0 < t.fClk) :
    periodSeconds c t * frequencyHz c t = 1 := by
  have hn : (c.n : ℚ) ≠ 0 := Nat.cast_ne_zero.mpr (n_pos_of_configOk hc).ne'
  have hp : (c.prescaler : ℚ) ≠ 0 := Nat.cast_ne_zero.mpr (prescaler_pos_of_configOk hc).ne'
  have hclocks : (c.prescaler * 2 ^ c.timerBits * c.n : ℚ) ≠ 0 :=
    mul_ne_zero (mul_ne_zero hp (pow_ne_zero _ two_ne_zero)) hn
  rw [periodSeconds, frequencyHz, div_mul_div_comm, mul_comm, div_self (mul_ne_zero ht.ne' hclocks)]

/-- At 8 bits one PWM period is 256 ticks, at 16 MHz a sixteenth of a microsecond for each clock (R223). -/
theorem pwmPeriod_of_eight_bits {c : Config} (h : c.timerBits = 8) :
    pwmPeriodClocks c = c.prescaler * 256 ∧ pwmPeriodMicroseconds c ⟨16000000, 1⟩ = c.prescaler * 16 := by
  have hclocks : pwmPeriodClocks c = c.prescaler * 256 := by rw [pwmPeriodClocks, h]; rfl
  refine ⟨hclocks, ?_⟩
  rw [pwmPeriodMicroseconds, pwmPeriodSeconds, hclocks]
  push_cast
  ring

/-- Settles O60: the laws are the quotients above, and the cases and rows their values. -/
theorem periodAndFrequencyLaws : Obligations.PeriodAndFrequencyLaws := by
  refine ⟨fun c t => ?wave, fun c t hc ht => ?reciprocal, fun p hp => ?frequencies, fun c t => ⟨?pwm, ?periods⟩,
    fun p hp c hprescaler hbits => ?rows⟩
  case wave => rw [periodSeconds, cast_wavePeriodClocks]
  case reciprocal =>
    simp only [timingOk, Bool.and_eq_true, decide_eq_true_eq] at ht
    exact periodSeconds_mul_frequencyHz hc ht.1
  case frequencies =>
    simp only [List.mem_cons, List.not_mem_nil, or_false] at hp
    obtain rfl | rfl | rfl := hp <;> norm_num [frequencyHz, Config.initial]
  case pwm => rw [pwmPeriodSeconds, cast_pwmPeriodClocks]
  case periods => rw [periodSeconds, pwmPeriodSeconds, cast_pwmPeriodClocks, mul_comm, mul_div_assoc]
  case rows =>
    obtain ⟨hclocks, hmicro⟩ := pwmPeriod_of_eight_bits hbits
    rw [hclocks, hmicro, hprescaler]
    simp only [List.mem_cons, List.not_mem_nil, or_false] at hp
    obtain rfl | rfl | rfl | rfl | rfl | rfl | rfl := hp <;> norm_num

end Sys2Proof.Machine
end

section
/-! The default samples over the real sine (R60, R63). The sines of the 1024 angles of a cycle are the imaginary parts of
the powers of one point of the unit circle; the powers of a rational point close to it are computed exactly, and the
printed samples are compared with them in one pass over the longest table, of which the two others are parts. -/

namespace Sys2Proof.Machine

/-! ## One turn of the cycle and its rational neighbour -/

/-- The angle between neighbouring samples of the longest table. -/
noncomputable def sampleAngle : ℝ := Real.pi / 512

/-- The cosine of `sampleAngle`, in units of `turnScale`, rounded down. -/
def turnRe : ℤ := 999981175

/-- The sine of `sampleAngle`, in units of `turnScale`, rounded down. -/
def turnIm : ℤ := 6135884

def turnScale : ℤ := 1000000000

/-- A rational point inside the unit circle, close to the point at `sampleAngle`. -/
noncomputable def rationalTurn : ℂ := ⟨turnRe / turnScale, turnIm / turnScale⟩

theorem norm_rationalTurn_le_one : ‖rationalTurn‖ ≤ 1 := by
  rw [Complex.norm_def, Real.sqrt_le_one, Complex.normSq_apply]
  norm_num [rationalTurn, turnRe, turnIm, turnScale]

theorem sampleAngle_bounds : 6135921 / 10 ^ 9 < sampleAngle ∧ sampleAngle < 6135925 / 10 ^ 9 := by
  have hgt := Real.pi_gt_d6
  have hlt := Real.pi_lt_d6
  unfold sampleAngle
  constructor <;> norm_num <;> linarith

theorem abs_sampleAngle_le_one : |sampleAngle| ≤ 1 := by
  obtain ⟨hlo, hhi⟩ := sampleAngle_bounds
  rw [abs_le]
  constructor <;> linarith

theorem abs_cos_sampleAngle_sub_le : |Real.cos sampleAngle - turnRe / turnScale| ≤ 2 / 10 ^ 9 := by
  obtain ⟨hlo, hhi⟩ := sampleAngle_bounds
  have hpos : 0 < sampleAngle := lt_trans (by norm_num) hlo
  have htaylor := abs_le.mp (Real.cos_bound abs_sampleAngle_le_one)
  rw [abs_of_pos hpos] at htaylor
  have hsq_lo : (6135921 / 10 ^ 9) ^ 2 ≤ sampleAngle ^ 2 := by gcongr
  have hsq_hi : sampleAngle ^ 2 ≤ (6135925 / 10 ^ 9) ^ 2 := by gcongr
  have hrest : sampleAngle ^ 4 ≤ (6135925 / 10 ^ 9) ^ 4 := by gcongr
  norm_num at hsq_lo hsq_hi hrest
  rw [abs_le, turnRe, turnScale]
  push_cast
  constructor <;> linarith

theorem abs_sin_sampleAngle_sub_le : |Real.sin sampleAngle - turnIm / turnScale| ≤ 6 / 10 ^ 9 := by
  obtain ⟨hlo, hhi⟩ := sampleAngle_bounds
  have hpos : 0 < sampleAngle := lt_trans (by norm_num) hlo
  have htaylor := abs_le.mp (Real.sin_bound abs_sampleAngle_le_one)
  rw [abs_of_pos hpos] at htaylor
  have hcube_lo : (6135921 / 10 ^ 9) ^ 3 ≤ sampleAngle ^ 3 := by gcongr
  have hcube_hi : sampleAngle ^ 3 ≤ (6135925 / 10 ^ 9) ^ 3 := by gcongr
  have hrest : sampleAngle ^ 5 ≤ (6135925 / 10 ^ 9) ^ 5 := by gcongr
  norm_num at hcube_lo hcube_hi hrest
  rw [abs_le, turnIm, turnScale]
  push_cast
  constructor <;> linarith

theorem norm_exp_sub_rationalTurn_le : ‖Complex.exp (sampleAngle * Complex.I) - rationalTurn‖ ≤ 8 / 10 ^ 9 := by
  refine (Complex.norm_le_abs_re_add_abs_im _).trans ?_
  rw [Complex.sub_re, Complex.sub_im, Complex.exp_ofReal_mul_I_re, Complex.exp_ofReal_mul_I_im]
  calc |Real.cos sampleAngle - rationalTurn.re| + |Real.sin sampleAngle - rationalTurn.im|
      ≤ 2 / 10 ^ 9 + 6 / 10 ^ 9 := add_le_add abs_cos_sampleAngle_sub_le abs_sin_sampleAngle_sub_le
    _ = 8 / 10 ^ 9 := by norm_num

theorem norm_pow_sub_pow_le {z w : ℂ} (hz : ‖z‖ ≤ 1) (hw : ‖w‖ ≤ 1) (j : ℕ) : ‖z ^ j - w ^ j‖ ≤ j * ‖z - w‖ := by
  induction j with
  | zero => simp
  | succ j ih =>
    calc ‖z ^ (j + 1) - w ^ (j + 1)‖ = ‖z ^ j * (z - w) + (z ^ j - w ^ j) * w‖ := by ring_nf
      _ ≤ ‖z ^ j‖ * ‖z - w‖ + ‖z ^ j - w ^ j‖ * ‖w‖ := by
        rw [← norm_mul, ← norm_mul]
        exact norm_add_le _ _
      _ ≤ 1 * ‖z - w‖ + j * ‖z - w‖ * 1 := by
        rw [norm_pow]
        gcongr
        exact pow_le_one₀ (norm_nonneg z) hz
      _ = ↑(j + 1) * ‖z - w‖ := by push_cast; ring

/-- Along the whole cycle the powers of the neighbour stay within `1 / 100000` of the sines. -/
theorem abs_sin_sub_im_le {j : ℕ} (hj : j < 1024) :
    |Real.sin (j * sampleAngle) - (rationalTurn ^ j).im| ≤ 1 / 100000 := by
  have hsin : Real.sin (j * sampleAngle) = (Complex.exp (sampleAngle * Complex.I) ^ j).im := by
    rw [← Complex.exp_nat_mul, ← mul_assoc, ← Complex.exp_ofReal_mul_I_im]
    push_cast
    rfl
  rw [hsin, ← Complex.sub_im]
  calc |(Complex.exp (sampleAngle * Complex.I) ^ j - rationalTurn ^ j).im|
      ≤ ‖Complex.exp (sampleAngle * Complex.I) ^ j - rationalTurn ^ j‖ := Complex.abs_im_le_norm _
    _ ≤ j * ‖Complex.exp (sampleAngle * Complex.I) - rationalTurn‖ :=
      norm_pow_sub_pow_le (Complex.norm_exp_ofReal_mul_I _).le norm_rationalTurn_le_one j
    _ ≤ 1024 * (8 / 10 ^ 9) := by
      have hj : (j : ℝ) ≤ 1024 := by exact_mod_cast hj.le
      gcongr
      exact norm_exp_sub_rationalTurn_le
    _ ≤ 1 / 100000 := by norm_num

/-! ## The pass over the table -/

/-- `v` is the sample at every sine within `1 / 100000` of `b / m`: the two inequalities of the floor, in integers. -/
def sampleHolds (b m v : ℤ) : Bool :=
  decide (2 * 100000 * (v - 128) * m ≤ 255 * (100000 * b - m)) &&
    decide (255 * (100000 * b + m) < 2 * 100000 * (v - 127) * m)

/-- The samples from index `j` on, where the power `j` of the rational point is `(a + b i) / m`. At the multiples of 512
the sine is 0 and the formula a tie, so that the sample is known. -/
def samplesHold : ℕ → ℤ → ℤ → ℤ → List ℕ → Bool
  | _, _, _, _, [] => true
  | j, a, b, m, v :: rest =>
    (if j % 512 = 0 then v == 128 else sampleHolds b m v) &&
      samplesHold (j + 1) (a * turnRe - b * turnIm) (a * turnIm + b * turnRe) (m * turnScale) rest

theorem samplesHold_cons {j : ℕ} {a b m : ℤ} {v : ℕ} {rest : List ℕ} :
    samplesHold j a b m (v :: rest) = true ↔
      (if j % 512 = 0 then (v == 128) = true else sampleHolds b m v = true) ∧
        samplesHold (j + 1) (a * turnRe - b * turnIm) (a * turnIm + b * turnRe) (m * turnScale) rest = true := by
  rw [samplesHold, Bool.and_eq_true]
  split_ifs <;> rfl

/-- `(a + b i) / m` is the power `j` of the rational point. -/
structure IsPower (j : ℕ) (a b m : ℤ) : Prop where
  pos : 0 < m
  re : (rationalTurn ^ j).re = a / m
  im : (rationalTurn ^ j).im = b / m

theorem IsPower.zero : IsPower 0 1 0 1 := ⟨by decide, by simp, by simp⟩

theorem IsPower.succ {j : ℕ} {a b m : ℤ} (h : IsPower j a b m) :
    IsPower (j + 1) (a * turnRe - b * turnIm) (a * turnIm + b * turnRe) (m * turnScale) := by
  have hm : (m : ℝ) ≠ 0 := Int.cast_ne_zero.mpr h.pos.ne'
  have hscale : (turnScale : ℝ) ≠ 0 := Int.cast_ne_zero.mpr (by decide)
  refine ⟨mul_pos h.pos (by decide), ?_, ?_⟩
  · rw [pow_succ, Complex.mul_re, h.re, h.im, rationalTurn]
    push_cast
    field_simp
  · rw [pow_succ, Complex.mul_im, h.re, h.im, rationalTurn]
    push_cast
    field_simp

/-- What the pass says of one sample: it is that of a tie, or it is the sample near the power's imaginary part. -/
theorem samplesHold_getElem? {l : List ℕ} :
    ∀ {j : ℕ} {a b m : ℤ}, samplesHold j a b m l = true → IsPower j a b m → ∀ {k v : ℕ}, l[k]? = some v →
      if (j + k) % 512 = 0 then v = 128 else ∃ a b m : ℤ, IsPower (j + k) a b m ∧ sampleHolds b m v = true := by
  induction l with
  | nil => exact fun _ _ _ _ hk => nomatch hk
  | cons u rest ih =>
    intro j a b m h hpower k v hk
    obtain ⟨hu, hrest⟩ := samplesHold_cons.mp h
    cases k with
    | zero =>
      obtain rfl : u = v := by simpa using hk
      rw [Nat.add_zero]
      split_ifs at hu ⊢ with htie
      · exact beq_iff_eq.mp hu
      · exact ⟨a, b, m, hpower, hu⟩
    | succ k =>
      have := ih hrest hpower.succ (k := k) hk
      rwa [Nat.add_right_comm, Nat.add_assoc] at this

theorem samplesHold_defaultTable : samplesHold 0 1 0 1 (defaultTable 1024) = true := by decide +kernel

/-! ## The formula -/

/-- The formula's floor, as two inequalities on the sine. -/
theorem generatedSample_iff {n i v : ℕ} :
    GeneratedSample 255 n i v ↔
      (v : ℝ) - 128 ≤ 255 / 2 * Real.sin (2 * Real.pi * i / n) ∧
        255 / 2 * Real.sin (2 * Real.pi * i / n) < v - 127 := by
  rw [GeneratedSample, eq_comm, Int.floor_eq_iff]
  push_cast
  constructor <;> rintro ⟨hlo, hhi⟩ <;> constructor <;> linarith

theorem bounds_of_sampleHolds {b m : ℤ} {v : ℕ} {x : ℝ} (hm : 0 < m) (h : sampleHolds b m v = true)
    (hx : |x - b / m| ≤ 1 / 100000) : (v : ℝ) - 128 ≤ 255 / 2 * x ∧ 255 / 2 * x < v - 127 := by
  simp only [sampleHolds, Bool.and_eq_true, decide_eq_true_eq] at h
  obtain ⟨hlo, hhi⟩ := h
  have hm : (0 : ℝ) < m := Int.cast_pos.mpr hm
  obtain ⟨y, hy⟩ : ∃ y : ℝ, y = b / m := ⟨_, rfl⟩
  have hb : (b : ℝ) = y * m := by rw [hy, div_mul_cancel₀ _ hm.ne']
  have hlo : 2 * 100000 * ((v : ℝ) - 128) * m ≤ 255 * (100000 * b - m) := by exact_mod_cast hlo
  have hhi : 255 * (100000 * (b : ℝ) + m) < 2 * 100000 * (v - 127) * m := by exact_mod_cast hhi
  rw [hb] at hlo hhi
  have hlo : 2 * 100000 * ((v : ℝ) - 128) ≤ 255 * (100000 * y - 1) := le_of_mul_le_mul_right (by linarith) hm
  have hhi : 255 * (100000 * y + 1) < 2 * 100000 * ((v : ℝ) - 127) := lt_of_mul_lt_mul_right (by linarith) hm.le
  rw [← hy, abs_le] at hx
  constructor <;> linarith

/-- The angle of sample `i` among 1024. -/
theorem two_pi_mul_div_1024 (i : ℕ) : 2 * Real.pi * i / (1024 : ℕ) = i * sampleAngle := by
  unfold sampleAngle
  push_cast
  ring

theorem generatedSample_1024 {i v : ℕ} (hi : i < 1024) (hv : defaultSample 1024 i = some v) :
    GeneratedSample 255 1024 i v := by
  rw [defaultSample_eq_getElem? (by decide)] at hv
  have hpass := samplesHold_getElem? samplesHold_defaultTable .zero hv
  rw [Nat.zero_add] at hpass
  rw [generatedSample_iff, two_pi_mul_div_1024]
  split_ifs at hpass with htie
  · obtain ⟨k, rfl⟩ := Nat.dvd_of_mod_eq_zero htie
    have hsin : Real.sin ((512 * k : ℕ) * sampleAngle) = 0 := by
      rw [← Real.sin_nat_mul_pi k, sampleAngle]
      congr 1
      push_cast
      ring
    rw [hsin, hpass]
    norm_num
  · obtain ⟨a, b, m, hpower, hholds⟩ := hpass
    exact bounds_of_sampleHolds hpower.pos hholds (hpower.im ▸ abs_sin_sub_im_le hi)

/-- Every default table is read from the longest one at equal distances. -/
theorem defaultSample_eq_1024 {n : ℕ} (hn : n ∈ [256, 512, 1024]) {i : ℕ} (hi : i < n) :
    defaultSample n i = defaultSample 1024 (i * (1024 / n)) := by
  have hparts : ∀ n ∈ [256, 512, 1024], ∀ i < n, defaultSample n i = defaultSample 1024 (i * (1024 / n)) := by
    decide +kernel
  exact hparts n hn i hi

/-- Settles O54: a sample is that of the longest table at the same angle, where the pass found it. -/
theorem defaultTablesFollowTheFormula : Obligations.DefaultTablesFollowTheFormula := by
  intro n hn i hi
  obtain ⟨v, hv, -⟩ := exists_defaultSample hn hi
  refine ⟨v, hv, ?_⟩
  have hstride : n * (1024 / n) = 1024 := (by decide : ∀ n ∈ [256, 512, 1024], n * (1024 / n) = 1024) n hn
  have hpos : 0 < 1024 / n := Nat.pos_of_ne_zero fun h => by simp [h] at hstride
  have hlong : i * (1024 / n) < 1024 := (Nat.mul_lt_mul_of_pos_right hi hpos).trans_eq hstride
  have hsample := generatedSample_1024 hlong ((defaultSample_eq_1024 hn hi).symm.trans hv)
  have hangle : 2 * Real.pi * (i * (1024 / n) : ℕ) / (1024 : ℕ) = 2 * Real.pi * i / n := by
    nth_rewrite 2 [← hstride]
    rw [Nat.cast_mul, Nat.cast_mul, ← mul_assoc, mul_div_mul_right _ _ (Nat.cast_ne_zero.mpr hpos.ne')]
  rw [generatedSample_iff] at hsample ⊢
  rwa [hangle] at hsample

end Sys2Proof.Machine
end
